-- ==== Sys2Proof/Word.lean ====
section
/-!
DEFINITION. The one word size of the decoder.

A byte is 8 bits, `0x00` to `0xFF` (spec/00_scope.md R7, decision D1 of
spec/92_eei_decisions.md).  The decoder never does arithmetic on a byte: bytes
are compared for equality and copied (R7, R64).
-/

namespace Sys2Proof

/-- An 8-bit byte (R7). -/
abbrev Byte := BitVec 8

end Sys2Proof
end

