-- ==== Sys2Proof/Config.lean ====
section
/-!
DEFINITION. The configuration record `cfg` of spec/00_scope.md R5, when it is
well formed (R6), and the one free value of the model.

The spec gives no numeric value for any wire constant (spec/91_not_in_source.md
N1 to N4), so the record is an argument of the model: every state carries the
configuration of its instance, and a statement about every state is a statement
about every configuration.
-/

namespace Sys2Proof

/-- The parameters of one decoder instance (R5): fixed at construction, never
written by any event of a live instance (R27). -/
structure Config where
  /-- `ATTN`, the attention byte. -/
  attn : Byte
  /-- `STX`, the start byte. -/
  stx : Byte
  /-- `ETX`, the end byte. -/
  etx : Byte
  /-- `ESC`, the escape byte. -/
  esc : Byte
  /-- `BCAST`, the destination value matched by every node. -/
  bcast : Byte
  /-- `MAXLEN`, the capacity of the message buffer in bytes. -/
  maxLen : Nat
  /-- `NODE_ID`, this node's identity as it appears on the wire (decision D5). -/
  nodeId : Byte
  /-- `STRICT_ESCAPE`, the escape policy; `false` is the spec's default (decision D6). -/
  strictEscape : Bool
  /-- `CNT_W`, the width in bits of each telemetry counter (decision D10). -/
  cntW : Nat
  deriving DecidableEq, Repr

/-- A configuration that the model gives a meaning to: the four structural bytes
are pairwise distinct and the buffer holds at least one byte (R6 (a), (b)); the
counter width is at least 1 (R5, the type of `CNT_W`; notes/assumptions/4.md,
DEDUCED).  `NODE_ID = BCAST` is allowed (R6, R123). -/
abbrev Config.WellFormed (c : Config) : Prop :=
  c.attn ≠ c.stx ∧ c.attn ≠ c.etx ∧ c.attn ≠ c.esc ∧
  c.stx ≠ c.etx ∧ c.stx ≠ c.esc ∧ c.etx ≠ c.esc ∧
  1 ≤ c.maxLen ∧ 1 ≤ c.cntW

/-- FREE VALUE (U6 of spec/93_implementation_defined.md: "any value", R24): what
reading buffer cell `i` gives when the cell holds no value.  It has no body, so
no proof can see it.  No state that satisfies `FrameInv` ever reads it; it keeps
the frame-complete step total in the states that no run reaches (R92;
notes/assumptions/8.md, DESIGN CHOICE). -/
opaque Config.unsetCell : Nat → Byte

end Sys2Proof
end

