-- ==== Sys2Proof/Syntax.lean ====
section
/-!
DEFINITION. The syntax: parse states, byte classes, input events, completed
frames, and `Instr`, one constructor per row of spec/opcode_table.json.

The decoder has no instruction set; its "instructions" are its input events
(spec/30_encoding.md R60).  A `BYTE(b)` event is decoded by (parse state, byte
class) into one cell of the transition table (R69), and the table lists both the
four events and the cells, so `Instr` has both.
-/

namespace Sys2Proof

/-- The parse state `ps` (spec/10_state.md R21): a closed set of seven. -/
inductive ParseState where
  | idle
  | sawAttention
  | sawStart
  | expectDestination
  | expectType
  | inPayload
  | escapeNext
  deriving DecidableEq, Repr

/-- The result of comparing a byte with the four structural constants (R61). -/
inductive ByteClass where
  | attnC
  | stxC
  | etxC
  | escC
  | dataC
  deriving DecidableEq, Repr

/-- The input alphabet (R60).  The host chooses the sequence (R13, R136). -/
inductive Event where
  | reset
  | byte (b : Byte)
  | tick
  | readAnomaly
  deriving DecidableEq, Repr

/-- A Completed Frame, which is also what one `DISPATCH(d, t, p)` output carries
(spec/43_address_filter.md R122, R124). -/
structure Frame where
  dest : Byte
  typ : Byte
  payload : List Byte
  deriving DecidableEq, Repr

/-- One constructor per row of spec/opcode_table.json.  A cell carries the byte
of the event that selects it (R64: one whole byte, taken unchanged). -/
inductive Instr where
  /-- `Idle.ATTN` (R81). -/
  | idleAttn (b : Byte)
  /-- `Idle.STX` (R82). -/
  | idleStx (b : Byte)
  /-- `Idle.ETX` (R82). -/
  | idleEtx (b : Byte)
  /-- `Idle.ESC` (R82). -/
  | idleEsc (b : Byte)
  /-- `Idle.DATA` (R82). -/
  | idleData (b : Byte)
  /-- `SawAttention.ATTN` (R83). -/
  | sawAttentionAttn (b : Byte)
  /-- `SawAttention.STX` (R84). -/
  | sawAttentionStx (b : Byte)
  /-- `SawAttention.ETX` (R84). -/
  | sawAttentionEtx (b : Byte)
  /-- `SawAttention.ESC` (R84). -/
  | sawAttentionEsc (b : Byte)
  /-- `SawAttention.DATA` (R84). -/
  | sawAttentionData (b : Byte)
  /-- `SawStart.ATTN` (R86). -/
  | sawStartAttn (b : Byte)
  /-- `SawStart.STX` (R85). -/
  | sawStartStx (b : Byte)
  /-- `SawStart.ETX` (R86). -/
  | sawStartEtx (b : Byte)
  /-- `SawStart.ESC` (R86). -/
  | sawStartEsc (b : Byte)
  /-- `SawStart.DATA` (R86). -/
  | sawStartData (b : Byte)
  /-- `ExpectDestination.ATTN` (R87). -/
  | expectDestinationAttn (b : Byte)
  /-- `ExpectDestination.STX` (R87). -/
  | expectDestinationStx (b : Byte)
  /-- `ExpectDestination.ETX` (R87). -/
  | expectDestinationEtx (b : Byte)
  /-- `ExpectDestination.ESC` (R87). -/
  | expectDestinationEsc (b : Byte)
  /-- `ExpectDestination.DATA` (R87). -/
  | expectDestinationData (b : Byte)
  /-- `ExpectType.ATTN` (R88). -/
  | expectTypeAttn (b : Byte)
  /-- `ExpectType.STX` (R88). -/
  | expectTypeStx (b : Byte)
  /-- `ExpectType.ETX` (R88). -/
  | expectTypeEtx (b : Byte)
  /-- `ExpectType.ESC` (R88). -/
  | expectTypeEsc (b : Byte)
  /-- `ExpectType.DATA` (R88). -/
  | expectTypeData (b : Byte)
  /-- `InPayload.ATTN` (R90). -/
  | inPayloadAttn (b : Byte)
  /-- `InPayload.STX` (R90). -/
  | inPayloadStx (b : Byte)
  /-- `InPayload.ETX` (R89). -/
  | inPayloadEtx (b : Byte)
  /-- `InPayload.ESC` (R100). -/
  | inPayloadEsc (b : Byte)
  /-- `InPayload.DATA` (R90). -/
  | inPayloadData (b : Byte)
  /-- `EscapeNext.ATTN` (R101). -/
  | escapeNextAttn (b : Byte)
  /-- `EscapeNext.STX` (R101). -/
  | escapeNextStx (b : Byte)
  /-- `EscapeNext.ETX` (R101). -/
  | escapeNextEtx (b : Byte)
  /-- `EscapeNext.ESC` (R101). -/
  | escapeNextEsc (b : Byte)
  /-- `EscapeNext.DATA.liberal` (R101). -/
  | escapeNextDataLiberal (b : Byte)
  /-- `EscapeNext.DATA.strict` (R102). -/
  | escapeNextDataStrict (b : Byte)
  /-- The event `BYTE` (R133). -/
  | byte (b : Byte)
  /-- The event `RESET` (R170). -/
  | reset
  /-- The event `TICK` (R134). -/
  | tick
  /-- The event `READ_ANOMALY` (R135). -/
  | readAnomaly
  deriving DecidableEq, Repr

end Sys2Proof
end

