-- ==== Sys2Proof/Machine/Operands.lean ====
section
/-!
DEFINITION. The operand forms.  Every operand is one whole byte taken unchanged
from its event (spec/30_encoding.md R64); the only thing the decoder computes
from a byte is its class (R61).
-/

namespace Sys2Proof

/-- `class(b)` (R61): equality with the four structural constants, all 8 bits. -/
def classOf (c : Config) (b : Byte) : ByteClass :=
  if b = c.attn then .attnC
  else if b = c.stx then .stxC
  else if b = c.etx then .etxC
  else if b = c.esc then .escC
  else .dataC

/-- The byte of a cell, with the parse state and the byte class that select it
(R69, and the `source_fields` of its row in spec/opcode_table.json); `none` for
the four event rows. -/
def Instr.cell? : Instr → Option (ParseState × ByteClass × Byte)
  | .idleAttn b => some (.idle, .attnC, b)
  | .idleStx b => some (.idle, .stxC, b)
  | .idleEtx b => some (.idle, .etxC, b)
  | .idleEsc b => some (.idle, .escC, b)
  | .idleData b => some (.idle, .dataC, b)
  | .sawAttentionAttn b => some (.sawAttention, .attnC, b)
  | .sawAttentionStx b => some (.sawAttention, .stxC, b)
  | .sawAttentionEtx b => some (.sawAttention, .etxC, b)
  | .sawAttentionEsc b => some (.sawAttention, .escC, b)
  | .sawAttentionData b => some (.sawAttention, .dataC, b)
  | .sawStartAttn b => some (.sawStart, .attnC, b)
  | .sawStartStx b => some (.sawStart, .stxC, b)
  | .sawStartEtx b => some (.sawStart, .etxC, b)
  | .sawStartEsc b => some (.sawStart, .escC, b)
  | .sawStartData b => some (.sawStart, .dataC, b)
  | .expectDestinationAttn b => some (.expectDestination, .attnC, b)
  | .expectDestinationStx b => some (.expectDestination, .stxC, b)
  | .expectDestinationEtx b => some (.expectDestination, .etxC, b)
  | .expectDestinationEsc b => some (.expectDestination, .escC, b)
  | .expectDestinationData b => some (.expectDestination, .dataC, b)
  | .expectTypeAttn b => some (.expectType, .attnC, b)
  | .expectTypeStx b => some (.expectType, .stxC, b)
  | .expectTypeEtx b => some (.expectType, .etxC, b)
  | .expectTypeEsc b => some (.expectType, .escC, b)
  | .expectTypeData b => some (.expectType, .dataC, b)
  | .inPayloadAttn b => some (.inPayload, .attnC, b)
  | .inPayloadStx b => some (.inPayload, .stxC, b)
  | .inPayloadEtx b => some (.inPayload, .etxC, b)
  | .inPayloadEsc b => some (.inPayload, .escC, b)
  | .inPayloadData b => some (.inPayload, .dataC, b)
  | .escapeNextAttn b => some (.escapeNext, .attnC, b)
  | .escapeNextStx b => some (.escapeNext, .stxC, b)
  | .escapeNextEtx b => some (.escapeNext, .etxC, b)
  | .escapeNextEsc b => some (.escapeNext, .escC, b)
  | .escapeNextDataLiberal b => some (.escapeNext, .dataC, b)
  | .escapeNextDataStrict b => some (.escapeNext, .dataC, b)
  | .byte _ | .reset | .tick | .readAnomaly => none

/-- The row's `config_condition` (spec/opcode_table.json), where it has one:
`STRICT_ESCAPE` of the two `EscapeNext` x `DATA_C` rows (R70, R101, R102). -/
def Instr.policy? : Instr → Option Bool
  | .escapeNextDataLiberal _ => some false
  | .escapeNextDataStrict _ => some true
  | .idleAttn _ | .idleStx _ | .idleEtx _ | .idleEsc _ | .idleData _ => none
  | .sawAttentionAttn _ | .sawAttentionStx _ | .sawAttentionEtx _ | .sawAttentionEsc _ | .sawAttentionData _ => none
  | .sawStartAttn _ | .sawStartStx _ | .sawStartEtx _ | .sawStartEsc _ | .sawStartData _ => none
  | .expectDestinationAttn _ | .expectDestinationStx _ | .expectDestinationEtx _ | .expectDestinationEsc _ | .expectDestinationData _ => none
  | .expectTypeAttn _ | .expectTypeStx _ | .expectTypeEtx _ | .expectTypeEsc _ | .expectTypeData _ => none
  | .inPayloadAttn _ | .inPayloadStx _ | .inPayloadEtx _ | .inPayloadEsc _ | .inPayloadData _ => none
  | .escapeNextAttn _ | .escapeNextStx _ | .escapeNextEtx _ | .escapeNextEsc _ => none
  | .byte _ | .reset | .tick | .readAnomaly => none

end Sys2Proof
end

