-- ==== Sys2Proof/Machine/Boot.lean ====
section
/-!
DEFINITION. The configuration that `Machine.State.reset` is constructed with.

The spec leaves every one of these values OPEN (spec/00_scope.md R5).  These are
the values of its test configuration TC1 (spec/95_test_vectors.md, section 0):
the C/MRI values of G1 for the four structural bytes (PRESUMED, from the family),
the source's `0x41` for `NODE_ID`, TC1's arbitrary `BCAST` and `MAXLEN`, and the
spec's own defaults for `STRICT_ESCAPE` and `CNT_W` (R5).  See
notes/assumptions/1.md, unsafe: no statement rests on them.
-/

namespace Sys2Proof

/-- TC1 of spec/95_test_vectors.md (DESIGN CHOICE, notes/assumptions/1.md). -/
def bootConfig : Config where
  attn := 0xFF
  stx := 0x02
  etx := 0x03
  esc := 0x10
  bcast := 0x00
  maxLen := 4
  nodeId := 0x41
  strictEscape := false
  cntW := 32

end Sys2Proof
end

