-- ==== Sys2Proof/Machine/State.lean ====
section
/-!
DEFINITION. The machine's state as plain data (spec/10_state.md R20), its reset
value (R29), and the reasons a step can stop.

The first nine fields after `cfg` are R20's record, whole.  `cfg` is the
instance's configuration (R5, R27: read-only control registers).  The last
three fields are the model's own window on the host (R13, R14): the configuration
the host supplies with the next `RESET` (R170), the events it has still to
deliver, and the `DISPATCH` outputs that have left the decoder.
-/

namespace Sys2Proof.Machine

/-- The payload buffer `buf` (R24, R40): the cells that hold a value, by index,
in strictly rising order.  A cell that is not listed holds no value. -/
abbrev Memory := List Host.Cell

/-- The canonical form: indices strictly rising.  (No entry can equal what an
unlisted cell reads as, since an unlisted cell holds no value.) -/
abbrev Memory.wf (m : Memory) : Prop := (m.map Prod.fst).Pairwise (· < ·)

/-- One decoder instance and the host's side of its interface. -/
structure State where
  /-- The instance's configuration, constant from its `RESET` on (R5, R27). -/
  cfg : Config
  /-- `ps`, the parse state (R21). -/
  ps : ParseState
  /-- `dest`, the destination of the In-Progress Frame (R22). -/
  dest : Byte
  /-- `typ`, the type of the In-Progress Frame (R23). -/
  typ : Byte
  /-- `buf`, the payload buffer (R24). -/
  buf : Memory
  /-- `len`, the number of valid bytes in `buf`, `0 .. MAXLEN` (R24, R25). -/
  len : Nat
  /-- `tick_count`, a `CNT_W`-bit counter (R26, R139). -/
  tickCount : Nat
  /-- `byte_count`, a `CNT_W`-bit counter. -/
  byteCount : Nat
  /-- `frames_seen`, a `CNT_W`-bit counter. -/
  framesSeen : Nat
  /-- `frames_processed`, a `CNT_W`-bit counter. -/
  framesProcessed : Nat
  /-- The configuration the host supplies with the next `RESET` (R170); no event writes it
  (notes/assumptions/2.md). -/
  cfgIn : Config
  /-- The events the host has still to deliver, earliest first (R9, R13;
  notes/assumptions/3.md). -/
  input : List Event
  /-- The `DISPATCH` outputs so far, earliest first (R14, R122); no rule reads it
  (notes/assumptions/5.md). -/
  output : List Frame
  deriving DecidableEq, Repr

/-- Nothing makes the machine stop with a fault: "There are no fatal conditions
and no exceptions cross the core boundary" (R150), and every event in every
state has its rule (R65, R92).  So the type has no constructor
(notes/assumptions/16.md). -/
inductive Fault where
  deriving DecidableEq, Repr

/-- Why the model gives no meaning. -/
inductive Refusal where
  /-- Raised by a refused arm of `exec` for an instruction without a meaning (safe).  No arm raises it. -/
  | notModelled (mnemonic : String)
  /-- Raised by every event under a configuration that is not well formed, and by
  `RESET` when the configuration supplied with it is not (R6, U10, decision D21:
  "refused"; safe). -/
  | illFormedConfig
  /-- Raised by a cell row in a state where the row's own selection condition
  (parse state, byte class, policy) does not hold, so that the row is not the
  enabled one (R80, R93; safe).  No event ever runs such a cell. -/
  | cellNotSelected
  deriving DecidableEq, Repr

/-- The state right after the `RESET` that constructs an instance with
configuration `c` (R29, R170), with nothing delivered yet. -/
def State.resetWith (c : Config) : State where
  cfg := c
  ps := .idle
  dest := 0x00
  typ := 0x00
  buf := []
  len := 0
  tickCount := 0
  byteCount := 0
  framesSeen := 0
  framesProcessed := 0
  cfgIn := c
  input := []
  output := []

/-- The machine right after reset, constructed with `bootConfig`
(notes/assumptions/1.md). -/
def State.reset : State := State.resetWith bootConfig

end Sys2Proof.Machine
end

