-- ==== Sys2Proof/Machine/Ops.lean ====
section
/-!
DEFINITION. The named operations over the state: the buffer and its two accesses
(spec/00_scope.md R8, spec/20_memory.md), the register writes, the counters
(spec/44_counters_and_pump.md), `append` and `reset()`
(spec/42_message_buffer.md), `abandon()` (spec/40_framing_fsm.md R91, the
block's "trap entry", spec/60_exceptions.md R157), the addressing filter, and
`emit DISPATCH` (spec/43_address_filter.md).
-/

namespace Sys2Proof.Machine

/-- What one transition answers. -/
abbrev Result := Host.Outcome State Fault Refusal

/-- The value cell `a` holds, if it holds one (R24). -/
def Memory.read? (m : Memory) (a : Nat) : Option Byte :=
  match m with
  | [] => none
  | (k, v) :: rest => if k = a then some v else Memory.read? rest a

/-- `MemWrite(a, 1, b)` (R8): one byte, keeping the canonical form. -/
def Memory.write (m : Memory) (a : Nat) (b : Byte) : Memory :=
  match m with
  | [] => [(a, b)]
  | (k, v) :: rest =>
    if k = a then (a, b) :: rest
    else if a < k then (a, b) :: (k, v) :: rest
    else (k, v) :: Memory.write rest a b

/-- `inc(c)` of a `w`-bit counter (R139): plus 1 modulo `2^w`. -/
def inc (w n : Nat) : Nat := (n + 1) % 2 ^ w

/-- `ps <- p` (R8). -/
def State.setPs (p : ParseState) (s : State) : State := { s with ps := p }

/-- `dest <- b` (R114). -/
def State.setDest (b : Byte) (s : State) : State := { s with dest := b }

/-- `typ <- b` (R114). -/
def State.setTyp (b : Byte) (s : State) : State := { s with typ := b }

/-- `buf[len] <- b; len <- len + 1`, as one indivisible update (R44, R110). -/
def State.storeByte (b : Byte) (s : State) : State :=
  { s with buf := s.buf.write s.len b, len := s.len + 1 }

/-- `inc(tick_count)` (R134). -/
def State.incTickCount (s : State) : State := { s with tickCount := inc s.cfg.cntW s.tickCount }

/-- `inc(byte_count)` (R133). -/
def State.incByteCount (s : State) : State := { s with byteCount := inc s.cfg.cntW s.byteCount }

/-- `inc(frames_seen)` (R131). -/
def State.incFramesSeen (s : State) : State := { s with framesSeen := inc s.cfg.cntW s.framesSeen }

/-- `inc(frames_processed)` (R132). -/
def State.incFramesProcessed (s : State) : State :=
  { s with framesProcessed := inc s.cfg.cntW s.framesProcessed }

/-- `emit DISPATCH(f)` (R8, R122). -/
def State.emit (f : Frame) (s : State) : State := { s with output := s.output ++ [f] }

/-- The host's remaining events. -/
def State.setInput (es : List Event) (s : State) : State := { s with input := es }

/-- The result of `append` (R110): consumed in the same step, never stored (R30). -/
inductive AppendResult where
  | success
  | overflow
  deriving DecidableEq, Repr

/-- `append(b)` (R110): all or nothing (R44). -/
def State.append (b : Byte) (s : State) : State × AppendResult :=
  if s.len < s.cfg.maxLen then (s.storeByte b, .success) else (s, .overflow)

/-- `reset()` (R111): `dest` and `typ` take the cleared value 0x00 (R33), and with
`len = 0` no cell of `buf` holds a value (R24). -/
def State.resetFrame (s : State) : State :=
  { s with dest := 0x00, typ := 0x00, buf := [], len := 0 }

/-- `abandon()` (R91): what the block does instead of taking an exception (R157). -/
def State.abandon (s : State) : State := s.resetFrame.setPs .idle

/-- The common shape of R90 and R101: append and be in the payload, or abandon. -/
def State.appendOrAbandon (b : Byte) (s : State) : State :=
  match s.append b with
  | (s', .success) => s'.setPs .inPayload
  | (s', .overflow) => s'.abandon

/-- `MemRead(i, 1)` (R8).  A cell that holds no value reads as the free value
`Config.unsetCell` (U6); `FrameInv` rules that out. -/
def State.bufRead (s : State) (i : Nat) : Byte := (s.buf.read? i).getD (Config.unsetCell i)

/-- `[buf[0], ..., buf[len-1]]` (R24), in index order (R42). -/
def State.payload (s : State) : List Byte := (List.range s.len).map s.bufRead

/-- The Completed Frame (R124). -/
def State.completedFrame (s : State) : Frame := ⟨s.dest, s.typ, s.payload⟩

/-- The addressing filter `accept(d)` (R120). -/
def accept (c : Config) (d : Byte) : Bool := d == c.bcast || d == c.nodeId

/-- Frame-complete, line by line (R89). -/
def State.frameComplete (s : State) : State :=
  let f := s.completedFrame
  let s₁ := s.incFramesSeen
  let s₂ := if accept s.cfg s.dest then s₁.incFramesProcessed.emit f else s₁
  s₂.resetFrame.setPs .idle

/-- `RESET` (R170): construction of an instance with configuration `c`.  It
touches neither the host's remaining events nor the outputs that have left. -/
def State.construct (c : Config) (s : State) : State :=
  { (s.setPs .idle).resetFrame with
    cfg := c, tickCount := 0, byteCount := 0, framesSeen := 0, framesProcessed := 0 }

/-- A meaning under the instance's configuration, which the model refuses when it
is not well formed (R6, decision D21). -/
def State.configured (s t : State) : Result :=
  if s.cfg.WellFormed then .next t else .refused .illFormedConfig

/-- The cell of parse state `p` and class `k`: its effect `t` when it is the cell
that `b` selects in `s` (R69, R80). -/
def State.cell (s : State) (p : ParseState) (k : ByteClass) (b : Byte) (t : State) : Result :=
  if s.ps = p ∧ classOf s.cfg b = k then s.configured t else .refused .cellNotSelected

/-- A cell whose row has a `config_condition`: it is selected only under that
escape policy (R70, R101, R102). -/
def State.cellUnder (policy : Bool) (s : State) (p : ParseState) (k : ByteClass) (b : Byte)
    (t : State) : Result :=
  if s.cfg.strictEscape = policy then s.cell p k b t else .refused .cellNotSelected

end Sys2Proof.Machine
end

