-- ==== Sys2Proof/Machine/Detect.lean ====
section
/-!
DEFINITION. Frame detection: the cells of `Idle`, `SawAttention` and `SawStart`
(spec/40_framing_fsm.md, section 2).
-/

namespace Sys2Proof.Machine

/-- R81: the first attention byte. -/
def State.firstAttention (s : State) : State := s.setPs .sawAttention

/-- R82: "stay Idle"; the byte is ignored. -/
def State.stayIdle (s : State) : State := s.setPs .idle

/-- R83: the second attention byte. -/
def State.secondAttention (s : State) : State := s.setPs .sawStart

/-- R85: the start byte after the attention sequence; the `reset()` is the
redundant one of decision D15. -/
def State.startByte (s : State) : State := s.resetFrame.setPs .expectDestination

/-- `Idle.ATTN` (R81). -/
def execIdleAttn (b : Byte) (s : State) : Result :=
  s.cell .idle .attnC b (s.firstAttention)

/-- `Idle.STX` (R82). -/
def execIdleStx (b : Byte) (s : State) : Result :=
  s.cell .idle .stxC b (s.stayIdle)

/-- `Idle.ETX` (R82). -/
def execIdleEtx (b : Byte) (s : State) : Result :=
  s.cell .idle .etxC b (s.stayIdle)

/-- `Idle.ESC` (R82). -/
def execIdleEsc (b : Byte) (s : State) : Result :=
  s.cell .idle .escC b (s.stayIdle)

/-- `Idle.DATA` (R82). -/
def execIdleData (b : Byte) (s : State) : Result :=
  s.cell .idle .dataC b (s.stayIdle)

/-- `SawAttention.ATTN` (R83). -/
def execSawAttentionAttn (b : Byte) (s : State) : Result :=
  s.cell .sawAttention .attnC b (s.secondAttention)

/-- `SawAttention.STX` (R84). -/
def execSawAttentionStx (b : Byte) (s : State) : Result :=
  s.cell .sawAttention .stxC b (s.abandon)

/-- `SawAttention.ETX` (R84). -/
def execSawAttentionEtx (b : Byte) (s : State) : Result :=
  s.cell .sawAttention .etxC b (s.abandon)

/-- `SawAttention.ESC` (R84). -/
def execSawAttentionEsc (b : Byte) (s : State) : Result :=
  s.cell .sawAttention .escC b (s.abandon)

/-- `SawAttention.DATA` (R84). -/
def execSawAttentionData (b : Byte) (s : State) : Result :=
  s.cell .sawAttention .dataC b (s.abandon)

/-- `SawStart.ATTN` (R86). -/
def execSawStartAttn (b : Byte) (s : State) : Result :=
  s.cell .sawStart .attnC b (s.abandon)

/-- `SawStart.STX` (R85). -/
def execSawStartStx (b : Byte) (s : State) : Result :=
  s.cell .sawStart .stxC b (s.startByte)

/-- `SawStart.ETX` (R86). -/
def execSawStartEtx (b : Byte) (s : State) : Result :=
  s.cell .sawStart .etxC b (s.abandon)

/-- `SawStart.ESC` (R86). -/
def execSawStartEsc (b : Byte) (s : State) : Result :=
  s.cell .sawStart .escC b (s.abandon)

/-- `SawStart.DATA` (R86). -/
def execSawStartData (b : Byte) (s : State) : Result :=
  s.cell .sawStart .dataC b (s.abandon)

end Sys2Proof.Machine
end

