-- ==== Sys2Proof/Machine/Escape.lean ====
section
/-!
DEFINITION. The escaped byte: the row `EscapeNext`, liberal and strict
(spec/41_escape_decoder.md R101, R102).
-/

namespace Sys2Proof.Machine

/-- R101: the byte after the escape prefix is literal payload; on overflow the
frame is abandoned. -/
def State.escapedByte (b : Byte) (s : State) : State := s.appendOrAbandon b

/-- R102: under `STRICT_ESCAPE` a byte that is not structural is rejected
(decision D8: as every invalid byte is, by abandoning the frame). -/
def State.rejectEscaped (s : State) : State := s.abandon

/-- `EscapeNext.ATTN` (R101). -/
def execEscapeNextAttn (b : Byte) (s : State) : Result :=
  s.cell .escapeNext .attnC b (s.escapedByte b)

/-- `EscapeNext.STX` (R101). -/
def execEscapeNextStx (b : Byte) (s : State) : Result :=
  s.cell .escapeNext .stxC b (s.escapedByte b)

/-- `EscapeNext.ETX` (R101). -/
def execEscapeNextEtx (b : Byte) (s : State) : Result :=
  s.cell .escapeNext .etxC b (s.escapedByte b)

/-- `EscapeNext.ESC` (R101). -/
def execEscapeNextEsc (b : Byte) (s : State) : Result :=
  s.cell .escapeNext .escC b (s.escapedByte b)

/-- `EscapeNext.DATA.liberal` (R101). -/
def execEscapeNextDataLiberal (b : Byte) (s : State) : Result :=
  s.cellUnder false .escapeNext .dataC b (s.escapedByte b)

/-- `EscapeNext.DATA.strict` (R102). -/
def execEscapeNextDataStrict (b : Byte) (s : State) : Result :=
  s.cellUnder true .escapeNext .dataC b (s.rejectEscaped)

end Sys2Proof.Machine
end

