-- ==== Sys2Proof/Machine/Header.lean ====
section
/-!
DEFINITION. The header: the cells of `ExpectDestination` and `ExpectType`
(spec/40_framing_fsm.md, section 3).  Every byte value is accepted.
-/

namespace Sys2Proof.Machine

/-- R87: the destination byte. -/
def State.recordDest (b : Byte) (s : State) : State := (s.setDest b).setPs .expectType

/-- R88: the type byte. -/
def State.recordTyp (b : Byte) (s : State) : State := (s.setTyp b).setPs .inPayload

/-- `ExpectDestination.ATTN` (R87). -/
def execExpectDestinationAttn (b : Byte) (s : State) : Result :=
  s.cell .expectDestination .attnC b (s.recordDest b)

/-- `ExpectDestination.STX` (R87). -/
def execExpectDestinationStx (b : Byte) (s : State) : Result :=
  s.cell .expectDestination .stxC b (s.recordDest b)

/-- `ExpectDestination.ETX` (R87). -/
def execExpectDestinationEtx (b : Byte) (s : State) : Result :=
  s.cell .expectDestination .etxC b (s.recordDest b)

/-- `ExpectDestination.ESC` (R87). -/
def execExpectDestinationEsc (b : Byte) (s : State) : Result :=
  s.cell .expectDestination .escC b (s.recordDest b)

/-- `ExpectDestination.DATA` (R87). -/
def execExpectDestinationData (b : Byte) (s : State) : Result :=
  s.cell .expectDestination .dataC b (s.recordDest b)

/-- `ExpectType.ATTN` (R88). -/
def execExpectTypeAttn (b : Byte) (s : State) : Result :=
  s.cell .expectType .attnC b (s.recordTyp b)

/-- `ExpectType.STX` (R88). -/
def execExpectTypeStx (b : Byte) (s : State) : Result :=
  s.cell .expectType .stxC b (s.recordTyp b)

/-- `ExpectType.ETX` (R88). -/
def execExpectTypeEtx (b : Byte) (s : State) : Result :=
  s.cell .expectType .etxC b (s.recordTyp b)

/-- `ExpectType.ESC` (R88). -/
def execExpectTypeEsc (b : Byte) (s : State) : Result :=
  s.cell .expectType .escC b (s.recordTyp b)

/-- `ExpectType.DATA` (R88). -/
def execExpectTypeData (b : Byte) (s : State) : Result :=
  s.cell .expectType .dataC b (s.recordTyp b)

end Sys2Proof.Machine
end

