-- ==== Sys2Proof/Machine/Payload.lean ====
section
/-!
DEFINITION. The payload: the cells of `InPayload` (spec/40_framing_fsm.md, section 4,
and R100 of spec/41_escape_decoder.md).
-/

namespace Sys2Proof.Machine

/-- R90: an ordinary payload byte; on overflow the frame is abandoned. -/
def State.payloadByte (b : Byte) (s : State) : State := s.appendOrAbandon b

/-- R100: the escape prefix, never stored, whatever `len` is. -/
def State.escapePrefix (s : State) : State := s.setPs .escapeNext

/-- `InPayload.ATTN` (R90). -/
def execInPayloadAttn (b : Byte) (s : State) : Result :=
  s.cell .inPayload .attnC b (s.payloadByte b)

/-- `InPayload.STX` (R90). -/
def execInPayloadStx (b : Byte) (s : State) : Result :=
  s.cell .inPayload .stxC b (s.payloadByte b)

/-- `InPayload.ETX` (R89). -/
def execInPayloadEtx (b : Byte) (s : State) : Result :=
  s.cell .inPayload .etxC b (s.frameComplete)

/-- `InPayload.ESC` (R100). -/
def execInPayloadEsc (b : Byte) (s : State) : Result :=
  s.cell .inPayload .escC b (s.escapePrefix)

/-- `InPayload.DATA` (R90). -/
def execInPayloadData (b : Byte) (s : State) : Result :=
  s.cell .inPayload .dataC b (s.payloadByte b)

end Sys2Proof.Machine
end

