-- ==== Sys2Proof/Machine/Events.lean ====
section
/-!
DEFINITION. The four events: `BYTE` with the dispatch skeleton
(spec/44_counters_and_pump.md R133, spec/40_framing_fsm.md R80), `TICK` (R134),
`READ_ANOMALY` (R135) and `RESET` (spec/70_reset_and_hazards.md R170).
-/

namespace Sys2Proof.Machine

/-- `FSM_BYTE(b)`, test by test in the order of R80. -/
def State.fsmByte (b : Byte) (s : State) : State :=
  match s.ps with
  | .idle => if b = s.cfg.attn then s.firstAttention else s.stayIdle
  | .sawAttention => if b = s.cfg.attn then s.secondAttention else s.abandon
  | .sawStart => if b = s.cfg.stx then s.startByte else s.abandon
  | .expectDestination => s.recordDest b
  | .expectType => s.recordTyp b
  | .inPayload =>
    if b = s.cfg.etx then s.frameComplete
    else if b = s.cfg.esc then s.escapePrefix
    else s.payloadByte b
  | .escapeNext =>
    if s.cfg.strictEscape = true ∧ classOf s.cfg b = .dataC then s.rejectEscaped
    else s.escapedByte b

/-- `BYTE` (R133): count the byte, then run the FSM on it. -/
def execByte (b : Byte) (s : State) : Result := s.configured (s.incByteCount.fsmByte b)

/-- `RESET` (R170): construction with the configuration supplied with it. -/
def execReset (s : State) : Result :=
  if s.cfgIn.WellFormed then .next (s.construct s.cfgIn) else .refused .illFormedConfig

/-- `TICK` (R134). -/
def execTick (s : State) : Result := s.configured s.incTickCount

/-- `READ_ANOMALY` (R135): "no decoder-state change and no counter increment". -/
def execReadAnomaly (s : State) : Result := s.configured s

end Sys2Proof.Machine
end

