-- ==== Sys2Proof/Machine/Dispatch.lean ====
section
/-!
DEFINITION. One arm per row of spec/opcode_table.json, each one call of the
instruction's meaning.
-/

namespace Sys2Proof.Machine

def exec (i : Instr) (s : State) : Host.Outcome State Fault Refusal :=
  match i with
  | .idleAttn b => Sys2Proof.Machine.execIdleAttn b s
  | .idleStx b => Sys2Proof.Machine.execIdleStx b s
  | .idleEtx b => Sys2Proof.Machine.execIdleEtx b s
  | .idleEsc b => Sys2Proof.Machine.execIdleEsc b s
  | .idleData b => Sys2Proof.Machine.execIdleData b s
  | .sawAttentionAttn b => Sys2Proof.Machine.execSawAttentionAttn b s
  | .sawAttentionStx b => Sys2Proof.Machine.execSawAttentionStx b s
  | .sawAttentionEtx b => Sys2Proof.Machine.execSawAttentionEtx b s
  | .sawAttentionEsc b => Sys2Proof.Machine.execSawAttentionEsc b s
  | .sawAttentionData b => Sys2Proof.Machine.execSawAttentionData b s
  | .sawStartAttn b => Sys2Proof.Machine.execSawStartAttn b s
  | .sawStartStx b => Sys2Proof.Machine.execSawStartStx b s
  | .sawStartEtx b => Sys2Proof.Machine.execSawStartEtx b s
  | .sawStartEsc b => Sys2Proof.Machine.execSawStartEsc b s
  | .sawStartData b => Sys2Proof.Machine.execSawStartData b s
  | .expectDestinationAttn b => Sys2Proof.Machine.execExpectDestinationAttn b s
  | .expectDestinationStx b => Sys2Proof.Machine.execExpectDestinationStx b s
  | .expectDestinationEtx b => Sys2Proof.Machine.execExpectDestinationEtx b s
  | .expectDestinationEsc b => Sys2Proof.Machine.execExpectDestinationEsc b s
  | .expectDestinationData b => Sys2Proof.Machine.execExpectDestinationData b s
  | .expectTypeAttn b => Sys2Proof.Machine.execExpectTypeAttn b s
  | .expectTypeStx b => Sys2Proof.Machine.execExpectTypeStx b s
  | .expectTypeEtx b => Sys2Proof.Machine.execExpectTypeEtx b s
  | .expectTypeEsc b => Sys2Proof.Machine.execExpectTypeEsc b s
  | .expectTypeData b => Sys2Proof.Machine.execExpectTypeData b s
  | .inPayloadAttn b => Sys2Proof.Machine.execInPayloadAttn b s
  | .inPayloadStx b => Sys2Proof.Machine.execInPayloadStx b s
  | .inPayloadEtx b => Sys2Proof.Machine.execInPayloadEtx b s
  | .inPayloadEsc b => Sys2Proof.Machine.execInPayloadEsc b s
  | .inPayloadData b => Sys2Proof.Machine.execInPayloadData b s
  | .escapeNextAttn b => Sys2Proof.Machine.execEscapeNextAttn b s
  | .escapeNextStx b => Sys2Proof.Machine.execEscapeNextStx b s
  | .escapeNextEtx b => Sys2Proof.Machine.execEscapeNextEtx b s
  | .escapeNextEsc b => Sys2Proof.Machine.execEscapeNextEsc b s
  | .escapeNextDataLiberal b => Sys2Proof.Machine.execEscapeNextDataLiberal b s
  | .escapeNextDataStrict b => Sys2Proof.Machine.execEscapeNextDataStrict b s
  | .byte b => Sys2Proof.Machine.execByte b s
  | .reset => Sys2Proof.Machine.execReset s
  | .tick => Sys2Proof.Machine.execTick s
  | .readAnomaly => Sys2Proof.Machine.execReadAnomaly s

end Sys2Proof.Machine
end

