-- ==== Sys2Proof/Decode.lean ====
section
/-!
DEFINITION. The decoder of events and cells, and the encoder.

Two decodings matter.  `decodeEvent` reads an input event as the instruction it
is (R60), and `cellOf` is the opcode map of R69: (parse state, byte class) to
one of the 36 cell rows, total on all 7 x 256 pairs (R65).

The spec gives an event no bits beyond its operand byte (R60), so the two-byte
EVENT RECORD read by `decode` is the model's own (notes/assumptions/6.md, DESIGN
CHOICE): the operand byte, then a kind byte.  Kinds `0x00` to `0x03` are `BYTE`,
`RESET`, `TICK`, `READ_ANOMALY`; a kind with bit 7 set names a cell by the state
number of R32 in bits 2 to 0 and by the mode bit `STRICT_ESCAPE` (R70) in bit 3.
-/

namespace Sys2Proof

/-- The instruction that an input event is (R60). -/
def decodeEvent : Event → Instr
  | .reset => .reset
  | .byte b => .byte b
  | .tick => .tick
  | .readAnomaly => .readAnomaly

/-- The opcode map (R69): the one cell that `BYTE(b)` selects in state `p`. -/
def cellOf (c : Config) (p : ParseState) (b : Byte) : Instr :=
  match p with
  | .idle =>
    match classOf c b with
    | .attnC => .idleAttn b
    | .stxC => .idleStx b
    | .etxC => .idleEtx b
    | .escC => .idleEsc b
    | .dataC => .idleData b
  | .sawAttention =>
    match classOf c b with
    | .attnC => .sawAttentionAttn b
    | .stxC => .sawAttentionStx b
    | .etxC => .sawAttentionEtx b
    | .escC => .sawAttentionEsc b
    | .dataC => .sawAttentionData b
  | .sawStart =>
    match classOf c b with
    | .attnC => .sawStartAttn b
    | .stxC => .sawStartStx b
    | .etxC => .sawStartEtx b
    | .escC => .sawStartEsc b
    | .dataC => .sawStartData b
  | .expectDestination =>
    match classOf c b with
    | .attnC => .expectDestinationAttn b
    | .stxC => .expectDestinationStx b
    | .etxC => .expectDestinationEtx b
    | .escC => .expectDestinationEsc b
    | .dataC => .expectDestinationData b
  | .expectType =>
    match classOf c b with
    | .attnC => .expectTypeAttn b
    | .stxC => .expectTypeStx b
    | .etxC => .expectTypeEtx b
    | .escC => .expectTypeEsc b
    | .dataC => .expectTypeData b
  | .inPayload =>
    match classOf c b with
    | .attnC => .inPayloadAttn b
    | .stxC => .inPayloadStx b
    | .etxC => .inPayloadEtx b
    | .escC => .inPayloadEsc b
    | .dataC => .inPayloadData b
  | .escapeNext =>
    match classOf c b with
    | .attnC => .escapeNextAttn b
    | .stxC => .escapeNextStx b
    | .etxC => .escapeNextEtx b
    | .escC => .escapeNextEsc b
    | .dataC => if c.strictEscape then .escapeNextDataStrict b else .escapeNextDataLiberal b

/-- The state numbers of R32 (decision D11), in the order of listing. -/
def stateNumber : ParseState → BitVec 3
  | .idle => 0
  | .sawAttention => 1
  | .sawStart => 2
  | .expectDestination => 3
  | .expectType => 4
  | .inPayload => 5
  | .escapeNext => 6

/-- The state of a 3-bit number; the unreachable value 7 is treated as `Idle` (R32). -/
def stateOfNumber (n : BitVec 3) : ParseState :=
  match n.toNat with
  | 0 => .idle
  | 1 => .sawAttention
  | 2 => .sawStart
  | 3 => .expectDestination
  | 4 => .expectType
  | 5 => .inPayload
  | 6 => .escapeNext
  | _ => .idle

/-- Why an event record is no instruction. -/
inductive DecodeError where
  /-- Fewer than two bytes are left. -/
  | truncated
  /-- The kind byte names neither an event nor a cell. -/
  | unknownKind
  /-- An event without an operand (R60) comes with an operand byte other than 0. -/
  | strayOperand
  deriving DecidableEq, Repr

/-- An event that R60 gives no operand. -/
def withoutOperand (b : Byte) (i : Instr) : Except DecodeError Instr :=
  if b = 0 then .ok i else .error .strayOperand

/-- One event record: operand byte `b`, kind byte `k`. -/
def decodeRecord (c : Config) (b k : Byte) : Except DecodeError Instr :=
  if k.toNat < 0x80 then
    match k.toNat with
    | 0 => .ok (.byte b)
    | 1 => withoutOperand b .reset
    | 2 => withoutOperand b .tick
    | 3 => withoutOperand b .readAnomaly
    | _ => .error .unknownKind
  else if k.extractLsb' 4 3 = 0 then
    .ok (cellOf { c with strictEscape := k.getLsbD 3 } (stateOfNumber (k.extractLsb' 0 3)) b)
  else .error .unknownKind

/-- Total on any bytes: the first instruction and the bytes after it. -/
def decode (c : Config) : List Byte → Except DecodeError (Instr × List Byte)
  | b :: k :: rest =>
    match decodeRecord c b k with
    | .ok i => .ok (i, rest)
    | .error e => .error e
  | [_] => .error .truncated
  | [] => .error .truncated

/-- The event record of an instruction. -/
def encode : Instr → List Byte
  | .idleAttn b => [b, 0x80]
  | .idleStx b => [b, 0x80]
  | .idleEtx b => [b, 0x80]
  | .idleEsc b => [b, 0x80]
  | .idleData b => [b, 0x80]
  | .sawAttentionAttn b => [b, 0x81]
  | .sawAttentionStx b => [b, 0x81]
  | .sawAttentionEtx b => [b, 0x81]
  | .sawAttentionEsc b => [b, 0x81]
  | .sawAttentionData b => [b, 0x81]
  | .sawStartAttn b => [b, 0x82]
  | .sawStartStx b => [b, 0x82]
  | .sawStartEtx b => [b, 0x82]
  | .sawStartEsc b => [b, 0x82]
  | .sawStartData b => [b, 0x82]
  | .expectDestinationAttn b => [b, 0x83]
  | .expectDestinationStx b => [b, 0x83]
  | .expectDestinationEtx b => [b, 0x83]
  | .expectDestinationEsc b => [b, 0x83]
  | .expectDestinationData b => [b, 0x83]
  | .expectTypeAttn b => [b, 0x84]
  | .expectTypeStx b => [b, 0x84]
  | .expectTypeEtx b => [b, 0x84]
  | .expectTypeEsc b => [b, 0x84]
  | .expectTypeData b => [b, 0x84]
  | .inPayloadAttn b => [b, 0x85]
  | .inPayloadStx b => [b, 0x85]
  | .inPayloadEtx b => [b, 0x85]
  | .inPayloadEsc b => [b, 0x85]
  | .inPayloadData b => [b, 0x85]
  | .escapeNextAttn b => [b, 0x86]
  | .escapeNextStx b => [b, 0x86]
  | .escapeNextEtx b => [b, 0x86]
  | .escapeNextEsc b => [b, 0x86]
  | .escapeNextDataLiberal b => [b, 0x86]
  | .escapeNextDataStrict b => [b, 0x8E]
  | .byte b => [b, 0x00]
  | .reset => [0x00, 0x01]
  | .tick => [0x00, 0x02]
  | .readAnomaly => [0x00, 0x03]

/-- The bytes of a number, least significant first. -/
def recordBytes (w : Nat) : List Byte := [BitVec.ofNat 8 w, BitVec.ofNat 8 (w / 256)]

/-- The instruction whose record has the bits `w`, under the configuration of
`Machine.State.reset`; bits above `nbits` are 0. -/
def decodeTableWord (nbits w : Nat) : Option Instr :=
  if w % 2 ^ nbits < 65536 then
    match decode bootConfig (recordBytes (w % 2 ^ nbits)) with
    | .ok (i, _) => some i
    | .error _ => none
  else none

end Sys2Proof
end

