-- ==== Sys2Proof/Machine/Fetch.lean ====
section
/-!
DEFINITION. Where the next instruction comes from: the host's next event
(spec/00_scope.md R9, R13).  The decoder has no instruction memory and no
instruction fetch (spec/20_memory.md R40, R43, R48); it is passive and holds its
state while no event arrives (R50).
-/

namespace Sys2Proof.Machine

/-- The instruction of the next event and the state with that event taken from
the host; `none` while no event arrives. -/
def State.fetch (s : State) : Option (Instr × State) :=
  match s.input with
  | [] => none
  | e :: rest => some (decodeEvent e, s.setInput rest)

/-- `e` is the next event. -/
def State.deliver (e : Event) (s : State) : State := s.setInput (e :: s.input)

/-- `s` such that the next step runs `i`.  An event is the next event.  A cell is
run by the event `BYTE(b)` in the cell's parse state, so that state is set, and
for the two rows with a `config_condition` the escape policy too
(notes/assumptions/6.md). -/
def State.place (i : Instr) (s : State) : State :=
  match i with
  | .byte b => s.deliver (.byte b)
  | .reset => s.deliver .reset
  | .tick => s.deliver .tick
  | .readAnomaly => s.deliver .readAnomaly
  | i =>
    match i.cell? with
    | some (p, _, b) =>
      { (s.setPs p).deliver (.byte b) with
        cfg := { s.cfg with strictEscape := i.policy?.getD s.cfg.strictEscape } }
    | none => s

end Sys2Proof.Machine
end

