-- ==== Sys2Proof/Machine/Step.lean ====
section
/-!
DEFINITION. One step: the host's next event, processed completely, with all its
state updates and its outputs, before the next is looked at (spec/00_scope.md
R9).  With no event the state is retained (spec/20_memory.md R50).
-/

namespace Sys2Proof.Machine

/-- One step of the machine (R9). -/
def step (s : State) : Host.Outcome State Fault Refusal :=
  match s.fetch with
  | none => .next s
  | some (i, s') => exec i s'

/-- `s` such that `step` runs the instruction that `decodeTableWord nbits w`
reads; `s` itself where it reads none. -/
def State.withFetchWord (s : State) (nbits w : Nat) : State :=
  match decodeTableWord nbits w with
  | some i => s.place i
  | none => s

end Sys2Proof.Machine
end

