-- ==== Sys2Proof/Machine/Flags.lean ====
section
/-!
DEFINITION. The decoder has no flag register and no condition codes
(spec/10_state.md R30).  The two conditions that are worded like flags are
functions of `ps`.
-/

namespace Sys2Proof.Machine

/-- `dest_valid` (R30). -/
def State.destValid (s : State) : Bool :=
  s.ps = .expectType || s.ps = .inPayload || s.ps = .escapeNext

/-- `typ_valid` (R30). -/
def State.typValid (s : State) : Bool := s.ps = .inPayload || s.ps = .escapeNext

end Sys2Proof.Machine
end

