-- ==== Sys2Proof/Machine/Errors.lean ====
section
/-!
DEFINITION. The error taxonomy as a predicate over (state, event) pairs
(spec/60_exceptions.md R150 to R156).  It is no state: the decoder stores no
cause, no error latch and no error count (R151), and no rule of the machine
reads anything here.
-/

namespace Sys2Proof.Machine

/-- The source's four classes (R150), its only identifiers for them (R151). -/
inductive ErrorClass where
  /-- (a) "an out-of-place byte breaks an in-progress frame" (R152). -/
  | malformed
  /-- (b) "payload exceeds capacity" (R153). -/
  | overflow
  /-- (c) "byte source claims availability but yields none" (R154). -/
  | readAnomaly
  /-- (d) "a structurally valid frame not destined for this node" (R155). -/
  | misaddressed
  deriving DecidableEq, Repr

/-- The class of an attempted `append` (R153). -/
def State.appendError (s : State) : Option ErrorClass :=
  if s.len < s.cfg.maxLen then none else some .overflow

/-- The class of the step for byte `b`, with the orderings of R156. -/
def State.byteError (s : State) (b : Byte) : Option ErrorClass :=
  match s.ps with
  | .idle | .expectDestination | .expectType => none
  | .sawAttention => if b = s.cfg.attn then none else some .malformed
  | .sawStart => if b = s.cfg.stx then none else some .malformed
  | .inPayload =>
    if b = s.cfg.etx then (if accept s.cfg s.dest then none else some .misaddressed)
    else if b = s.cfg.esc then none
    else s.appendError
  | .escapeNext =>
    if s.cfg.strictEscape = true ∧ classOf s.cfg b = .dataC then some .malformed
    else s.appendError

/-- The class of the step for an event (R150); at most one applies (R156). -/
def State.eventError (s : State) : Event → Option ErrorClass
  | .byte b => s.byteError b
  | .readAnomaly => some .readAnomaly
  | .reset | .tick => none

end Sys2Proof.Machine
end

