-- ==== Sys2Proof/Machine/Pump.lean ====
section
/-!
DEFINITION. The host agent (spec/44_counters_and_pump.md R136, R137): the Stream
Pump as a generator of events, and the read accessors.  The pump is surrounding
software (spec/00_scope.md R4 (f)); the decoder accepts events in any order.
-/

namespace Sys2Proof.Machine

/-- One `source.read()` while bytes are reported available (R136): a byte, or the
explicit no-data indicator that makes the pump issue `READ_ANOMALY`. -/
inductive SourceRead where
  | got (b : Byte)
  | nothing
  deriving DecidableEq, Repr

/-- The event a read makes the pump issue. -/
def SourceRead.event : SourceRead → Event
  | .got b => .byte b
  | .nothing => .readAnomaly

/-- One invocation of the pump (R136).  The list is empty when the source reports
zero bytes available; any finite number of anomalies may occur (decision D17). -/
def pumpEvents (reads : List SourceRead) : List Event := .tick :: reads.map SourceRead.event

/-- How many bytes an invocation actually read. -/
def bytesRead (reads : List SourceRead) : Nat := (reads.filter (· ≠ .nothing)).length

/-- The values of the four read accessors between two events (R137). -/
structure CounterValues where
  tickCount : Nat
  byteCount : Nat
  framesSeen : Nat
  framesProcessed : Nat
  deriving DecidableEq, Repr

/-- The read accessors (R137): no event, no side effect. -/
def State.readCounters (s : State) : CounterValues :=
  ⟨s.tickCount, s.byteCount, s.framesSeen, s.framesProcessed⟩

end Sys2Proof.Machine
end

