-- ==== Sys2Proof/Machine/Ports.lean ====
section
/-!
DEFINITION. The port binding of decision D12 (spec/92_eei_decisions.md), with
D16 for two port events in one clock cycle.  It is the spec's own choice for an
RTL implementation and not normative for this model, whose level is events
(decision D22): the step function uses nothing of this file.
-/

namespace Sys2Proof.Machine

/-- The input ports sampled at one rising edge of `clk` (D12). -/
structure PortIn where
  rst : Bool
  inValid : Bool
  inData : Byte
  tick : Bool
  anomaly : Bool
  deriving DecidableEq, Repr

/-- The events of one clock cycle (D16): `rst` overrides all; otherwise `tick` is
applied before `in_valid`; `anomaly` has no effect. -/
def portEvents (p : PortIn) : List Event :=
  if p.rst then [.reset]
  else (if p.tick then [.tick] else []) ++ (if p.anomaly then [.readAnomaly] else []) ++
    (if p.inValid then [.byte p.inData] else [])

/-- The dispatch ports while `disp_valid` is high (D12).  A payload byte at an
index that is not below `disp_len` has no defined value. -/
structure DispatchPorts where
  dest : Byte
  typ : Byte
  len : Nat
  payload : List (Option Byte)
  deriving DecidableEq, Repr

/-- The dispatch ports in the cycle that samples `p`, as a function of the state
before it and of `p` (D12); `none` while `disp_valid` is low. -/
def State.dispatchPorts (s : State) (p : PortIn) : Option DispatchPorts :=
  if p.rst = false ∧ p.inValid = true ∧ s.ps = .inPayload ∧ p.inData = s.cfg.etx ∧
      accept s.cfg s.dest = true then
    some
      { dest := s.dest
        typ := s.typ
        len := s.len
        payload := (List.range s.cfg.maxLen).map fun i =>
          if i < s.len then some (s.bufRead i) else none }
  else none

end Sys2Proof.Machine
end

