-- ==== Sys2Proof/Machine/Wire.lean ====
section
/-!
DEFINITION. The wire format of a frame (spec/30_encoding.md R62, R63) and the
reference encoder `ENC` (R68): notation for statements, not hardware (R4 (g)).
-/

namespace Sys2Proof.Machine

/-- `esc(x)` (R68): all four structural values are escaped (decision D19). -/
def escSeq (c : Config) (x : Byte) : List Byte :=
  if classOf c x = .dataC then [x] else [c.esc, x]

/-- The five bytes before the payload (R62): destination and type are never escaped. -/
def wireHeader (c : Config) (d t : Byte) : List Byte := [c.attn, c.attn, c.stx, d, t]

/-- The escaped payload (R63). -/
def wirePayload (c : Config) (p : List Byte) : List Byte := p.flatMap (escSeq c)

/-- `ENC(d, t, p)` (R68). -/
def wireFrame (c : Config) (d t : Byte) (p : List Byte) : List Byte :=
  wireHeader c d t ++ wirePayload c p ++ [c.etx]

end Sys2Proof.Machine
end

