-- ==== Sys2Proof/Safety.lean ====
section
/-!
DEFINITION. What a good state is, in the terms the statements use: the
invariants of spec/10_state.md (R25, R31), the canonical buffer, the counter
widths (R139), the byte accounting of R141, and the relations between two states
that the whole-machine statements compare.

A safe run needs no further notion: the machine has no fault (`Fault` is empty),
and every event in every state with a well-formed configuration has its rule.
-/

namespace Sys2Proof.Machine

/-- The frame registers are in their cleared condition (R33). -/
def State.frameCleared (s : State) : Prop :=
  s.dest = 0x00 ∧ s.typ = 0x00 ∧ s.buf = [] ∧ s.len = 0

/-- What holds in every state of a run. -/
structure FrameInv (s : State) : Prop where
  /-- The configuration is one the model gives a meaning to (R6). -/
  cfgWf : s.cfg.WellFormed
  /-- The capacity invariant (R25). -/
  lenLe : s.len ≤ s.cfg.maxLen
  /-- Exactly the cells `0 .. len-1` hold a value (R24), in canonical form. -/
  cells : s.buf.map Prod.fst = List.range s.len
  /-- R31 (a): before the type byte is expected, the frame is empty. -/
  prePayload : s.ps = .idle ∨ s.ps = .sawAttention ∨ s.ps = .sawStart ∨
    s.ps = .expectDestination → s.len = 0 ∧ s.dest = 0x00 ∧ s.typ = 0x00
  /-- R31 (b). -/
  expectType : s.ps = .expectType → s.len = 0 ∧ s.typ = 0x00
  /-- Each counter is a `CNT_W`-bit value (R139). -/
  tickLt : s.tickCount < 2 ^ s.cfg.cntW
  byteLt : s.byteCount < 2 ^ s.cfg.cntW
  seenLt : s.framesSeen < 2 ^ s.cfg.cntW
  processedLt : s.framesProcessed < 2 ^ s.cfg.cntW

/-- The least number of bytes a frame in progress has taken since its first
`ATTN`, besides those of its payload (R21, R62). -/
def wireBytesBehind : ParseState → Nat
  | .idle => 0
  | .sawAttention => 1
  | .sawStart => 2
  | .expectDestination => 3
  | .expectType => 4
  | .inPayload => 5
  | .escapeNext => 6

/-- Every frame seen took at least six bytes of its own, and the frame in progress
its own (R141, R62). -/
def State.accounted (s : State) : Prop :=
  6 * s.framesSeen + wireBytesBehind s.ps + s.len ≤ s.byteCount

/-- `t` differs from `s` at most in `tick_count`. -/
def sameButTicks (s t : State) : Prop := t = { s with tickCount := t.tickCount }

/-- `t` differs from `s` at most in the four counters. -/
def sameButCounters (s t : State) : Prop :=
  t = { s with
    tickCount := t.tickCount, byteCount := t.byteCount,
    framesSeen := t.framesSeen, framesProcessed := t.framesProcessed }

/-- `t` is the same decoder as `s` on another node, or with another broadcast
value: it differs at most in `NODE_ID` and `BCAST` (those of the next `RESET`
too), and in what the addressing filter decides. -/
def sameButAddress (s t : State) : Prop :=
  t = { s with
    cfg := { s.cfg with nodeId := t.cfg.nodeId, bcast := t.cfg.bcast }
    cfgIn := { s.cfgIn with nodeId := t.cfgIn.nodeId, bcast := t.cfgIn.bcast }
    framesProcessed := t.framesProcessed
    output := t.output }

end Sys2Proof.Machine
end

