-- ==== Sys2Proof/WellFormed.lean ====
section
/-!
DEFINITION. When a term of `Instr` is an instruction of an instance with
configuration `c`: a cell's byte has the class its row names (the row's
`byte_condition`), and the row's `config_condition` holds.
-/

namespace Sys2Proof

/-- The two checks on an instruction under configuration `c` (R61, R69, R70). -/
abbrev Instr.WellFormed (c : Config) (i : Instr) : Prop :=
  (i.cell?.all fun x => classOf c x.2.2 == x.2.1) = true ∧
  (i.policy?.all fun p => c.strictEscape == p) = true

end Sys2Proof
end

