-- ==== Sys2Proof/Certificates/Slice0/Obligations.lean ====
section
/-!
DEFINITION. The statements for the provers, in the order of OBLIGATIONS.json.
Every state carries its configuration, so a statement about every state is one
about every configuration (spec/00_scope.md R5).
-/

open Sys2Proof Sys2Proof.Machine

/-- For every state whose next event is e with the events rest after it, step answers exactly
what exec answers on the instruction that e is, in the state whose remaining events are rest
and that is otherwise unchanged. That the pending events stand in State is the model's
choice (notes/assumptions/3.md). (R9, R13, R60.) -/
def Obligations.StepRunsTheDecodedEvent : Prop :=
  ∀ (s : State) (e : Event) (rest : List Event), s.input = e :: rest →
    step s = exec (decodeEvent e) { s with input := rest }

/-- For every state with no event left to deliver, step answers that same state: nothing decays,
there is no timeout, and a half-received frame stays where it is. (R50 (20_memory.md), R13.) -/
def Obligations.NoEventRetainsTheState : Prop :=
  ∀ s : State, s.input = [] → step s = .next s

/-- For every state with a well-formed configuration and every byte b, exec of BYTE(b) equals
exec of the cell that the opcode map gives for the parse state and the class of b, in the
state whose byte_count is advanced by 1 modulo 2^CNT_W. The meaning of BYTE is written from
the test-by-test skeleton and the cells from the map of classes, so the two descriptions of
the transition table agree. That the count is part of the event is the spec's own choice
(decision D13). (R133, R69, D13 (92_eei_decisions.md).) -/
def Obligations.ByteCountsThenRunsTheSelectedCell : Prop :=
  ∀ (s : State) (b : Byte), s.cfg.WellFormed →
    exec (.byte b) s = exec (cellOf s.cfg s.ps b) { s with byteCount := (s.byteCount + 1) % 2 ^ s.cfg.cntW }

/-- For every state with a well-formed configuration and every cell row with byte b: if the row
is the one the opcode map gives for the parse state and the class of b, it answers a next
state; if it is any other cell row, it is refused as not selected. (That a row which is not
enabled is refused, instead of having no meaning at all, is the model's choice:
notes/assumptions/7.md.) (R80, R92, R93.) -/
def Obligations.ExactlyOneCellIsEnabled : Prop :=
  ∀ (s : State) (i : Instr) (p : ParseState) (k : ByteClass) (b : Byte), s.cfg.WellFormed →
    i.cell? = some (p, k, b) →
    (i = cellOf s.cfg s.ps b → ∃ t, exec i s = .next t) ∧
    (i ≠ cellOf s.cfg s.ps b → exec i s = .refused .cellNotSelected)

/-- For every state with a well-formed configuration (and, only where the next event is RESET,
with a well-formed configuration supplied), whatever its registers hold, a step answers a
next state, and the events still to be delivered are those after the first. That a step with
no event pending answers too, and that the events stand in State, is the model's choice
(notes/assumptions/3.md and 11.md). (R65, R92, R135.) -/
def Obligations.EveryEventStepCompletes : Prop :=
  ∀ s : State, s.cfg.WellFormed → (s.input.head? = some .reset → s.cfgIn.WellFormed) →
    ∃ t, step s = .next t ∧ t.input = s.input.tail

/-- For every state in Idle with a well-formed configuration and b = ATTN, the cell answers the
same state with ps = SawAttention, and the event BYTE(b) answers that with byte_count
advanced. (R81.) -/
def Obligations.IdleAttentionOpensDetection : Prop :=
  ∀ (s : State) (b : Byte), s.cfg.WellFormed → s.ps = .idle → b = s.cfg.attn →
    exec (.idleAttn b) s = .next { s with ps := .sawAttention } ∧
    exec (.byte b) s = .next
        { s with ps := .sawAttention, byteCount := (s.byteCount + 1) % 2 ^ s.cfg.cntW }

/-- For every state in Idle with a well-formed configuration and any byte b but ATTN, the cell
of b's class answers the very same state, and BYTE(b) changes byte_count alone. (R82.) -/
def Obligations.IdleIgnoresEveryOtherByte : Prop :=
  ∀ (s : State) (b : Byte), s.cfg.WellFormed → s.ps = .idle →
    (b = s.cfg.stx → exec (.idleStx b) s = .next s) ∧
    (b = s.cfg.etx → exec (.idleEtx b) s = .next s) ∧
    (b = s.cfg.esc → exec (.idleEsc b) s = .next s) ∧
    (classOf s.cfg b = .dataC → exec (.idleData b) s = .next s) ∧
    (b ≠ s.cfg.attn → exec (.byte b) s = .next
        { s with byteCount := (s.byteCount + 1) % 2 ^ s.cfg.cntW })

/-- For every state in SawAttention with a well-formed configuration and b = ATTN, the cell
answers the same state with ps = SawStart, and BYTE(b) answers that with byte_count
advanced. (R83.) -/
def Obligations.SecondAttentionArmsSawStart : Prop :=
  ∀ (s : State) (b : Byte), s.cfg.WellFormed → s.ps = .sawAttention → b = s.cfg.attn →
    exec (.sawAttentionAttn b) s = .next { s with ps := .sawStart } ∧
    exec (.byte b) s = .next
        { s with ps := .sawStart, byteCount := (s.byteCount + 1) % 2 ^ s.cfg.cntW }

/-- For every state in SawAttention with a well-formed configuration and any byte b but ATTN,
the cell of b's class abandons: ps = Idle, dest and typ cleared, len 0, no buffer cell with
a value, everything else unchanged; BYTE(b) does the same and advances byte_count. That a
cleared register stores 0x00 is the spec's own choice (R33: 'This spec stores 0x00',
decision D11; notes/assumptions/13.md). (R84, D11 (92_eei_decisions.md).) -/
def Obligations.BrokenAttentionAbandons : Prop :=
  ∀ (s : State) (b : Byte), s.cfg.WellFormed → s.ps = .sawAttention →
    (b = s.cfg.stx → exec (.sawAttentionStx b) s = .next
        { s with ps := .idle, dest := 0x00, typ := 0x00, buf := [], len := 0 }) ∧
    (b = s.cfg.etx → exec (.sawAttentionEtx b) s = .next
        { s with ps := .idle, dest := 0x00, typ := 0x00, buf := [], len := 0 }) ∧
    (b = s.cfg.esc → exec (.sawAttentionEsc b) s = .next
        { s with ps := .idle, dest := 0x00, typ := 0x00, buf := [], len := 0 }) ∧
    (classOf s.cfg b = .dataC → exec (.sawAttentionData b) s = .next
        { s with ps := .idle, dest := 0x00, typ := 0x00, buf := [], len := 0 }) ∧
    (b ≠ s.cfg.attn → exec (.byte b) s =
      .next
          { s with ps := .idle, dest := 0x00, typ := 0x00, buf := [], len := 0,
                   byteCount := (s.byteCount + 1) % 2 ^ s.cfg.cntW })

/-- For every state in SawStart with a well-formed configuration and b = STX, the cell clears
the frame registers and sets ps = ExpectDestination, everything else unchanged; BYTE(b) does
the same and advances byte_count. That a cleared register stores 0x00 is the spec's own
choice (R33: 'This spec stores 0x00', decision D11; notes/assumptions/13.md). (R85, D11
(92_eei_decisions.md).) -/
def Obligations.StartByteOpensAFrame : Prop :=
  ∀ (s : State) (b : Byte), s.cfg.WellFormed → s.ps = .sawStart → b = s.cfg.stx →
    exec (.sawStartStx b) s = .next
      { s with ps := .expectDestination, dest := 0x00, typ := 0x00, buf := [], len := 0 } ∧
    exec (.byte b) s = .next
      { s with ps := .expectDestination, dest := 0x00, typ := 0x00, buf := [], len := 0,
               byteCount := (s.byteCount + 1) % 2 ^ s.cfg.cntW }

/-- For every state in SawStart with a well-formed configuration and any byte b but STX, ATTN
included, the cell of b's class abandons, and so does BYTE(b), which also advances
byte_count. That a cleared register stores 0x00 is the spec's own choice (R33: 'This spec
stores 0x00', decision D11; notes/assumptions/13.md). That the byte is consumed and not
looked at again is the spec's own literal reading (decision D14; notes/assumptions/14.md).
(R86, D11 (92_eei_decisions.md).) -/
def Obligations.SawStartAbandonsOnAnythingButStx : Prop :=
  ∀ (s : State) (b : Byte), s.cfg.WellFormed → s.ps = .sawStart →
    (b = s.cfg.attn → exec (.sawStartAttn b) s = .next
        { s with ps := .idle, dest := 0x00, typ := 0x00, buf := [], len := 0 }) ∧
    (b = s.cfg.etx → exec (.sawStartEtx b) s = .next
        { s with ps := .idle, dest := 0x00, typ := 0x00, buf := [], len := 0 }) ∧
    (b = s.cfg.esc → exec (.sawStartEsc b) s = .next
        { s with ps := .idle, dest := 0x00, typ := 0x00, buf := [], len := 0 }) ∧
    (classOf s.cfg b = .dataC → exec (.sawStartData b) s = .next
        { s with ps := .idle, dest := 0x00, typ := 0x00, buf := [], len := 0 }) ∧
    (b ≠ s.cfg.stx → exec (.byte b) s =
      .next
          { s with ps := .idle, dest := 0x00, typ := 0x00, buf := [], len := 0,
                   byteCount := (s.byteCount + 1) % 2 ^ s.cfg.cntW })

/-- In every state that satisfies the invariant, a byte other than ATTN in SawAttention and a
byte other than STX in SawStart change ps to Idle and byte_count, and nothing else; and STX
in SawStart changes ps to ExpectDestination and byte_count, and nothing else: the frame
registers were already clear. That a third ATTN, like every rejected byte, ends in Idle and
is not looked at again is the spec's own literal reading of its source's table (decision
D14, U7; notes/assumptions/14.md). (R31, R84, R85, R86, D14 (92_eei_decisions.md).) -/
def Obligations.EarlyAbandonOnlyMovesThePs : Prop :=
  ∀ (s : State) (b : Byte), FrameInv s →
    (s.ps = .sawAttention → b ≠ s.cfg.attn →
      exec (.byte b) s = .next
          { s with ps := .idle, byteCount := (s.byteCount + 1) % 2 ^ s.cfg.cntW }) ∧
    (s.ps = .sawStart → b ≠ s.cfg.stx →
      exec (.byte b) s = .next
          { s with ps := .idle, byteCount := (s.byteCount + 1) % 2 ^ s.cfg.cntW }) ∧
    (s.ps = .sawStart → b = s.cfg.stx →
      exec (.byte b) s = .next
          { s with ps := .expectDestination, byteCount := (s.byteCount + 1) % 2 ^ s.cfg.cntW })

/-- For every state in Idle with a well-formed configuration and every n, after n consecutive
ATTN bytes the parse state is Idle, SawAttention or SawStart as n mod 3 is 0, 1 or 2; and
after one further byte STX it is ExpectDestination if n mod 3 = 2 and Idle otherwise. That
the byte is consumed and not looked at again is the spec's own literal reading (decision
D14; notes/assumptions/14.md). (R94, R93, R179, D14 (92_eei_decisions.md).) -/
def Obligations.AttentionRunModuloThree : Prop :=
  ∀ (s : State) (n : Nat), s.cfg.WellFormed → s.ps = .idle →
    (∃ t : State, Sys2Proof.core.run n
        { s with input := List.replicate n (.byte s.cfg.attn) } = .next t ∧
      t.input = [] ∧
      t.ps = (if n % 3 = 0 then .idle else if n % 3 = 1 then .sawAttention else .sawStart)) ∧
    (∃ t : State, Sys2Proof.core.run (n + 1)
        { s with input := List.replicate n (.byte s.cfg.attn) ++ [.byte s.cfg.stx] } = .next t ∧
      t.input = [] ∧
      t.ps = (if n % 3 = 2 then .expectDestination else .idle))

/-- For every state in ExpectDestination with a well-formed configuration and every byte b, the
cell of b's class, whichever of the five it is, writes b to dest and sets ps = ExpectType,
and nothing else; BYTE(b) does the same for any of the 256 values and advances byte_count;
dest is valid after it. (R87.) -/
def Obligations.EveryByteIsADestination : Prop :=
  ∀ (s : State) (b : Byte), s.cfg.WellFormed → s.ps = .expectDestination →
    (b = s.cfg.attn → exec (.expectDestinationAttn b) s = .next
        { s with ps := .expectType, dest := b }) ∧
    (b = s.cfg.stx → exec (.expectDestinationStx b) s = .next
        { s with ps := .expectType, dest := b }) ∧
    (b = s.cfg.etx → exec (.expectDestinationEtx b) s = .next
        { s with ps := .expectType, dest := b }) ∧
    (b = s.cfg.esc → exec (.expectDestinationEsc b) s = .next
        { s with ps := .expectType, dest := b }) ∧
    (classOf s.cfg b = .dataC → exec (.expectDestinationData b) s = .next
        { s with ps := .expectType, dest := b }) ∧
    exec (.byte b) s = .next
        { s with ps := .expectType, dest := b, byteCount := (s.byteCount + 1) % 2 ^ s.cfg.cntW } ∧
    ∀ t, exec (.byte b) s = .next t → t.destValid = true

/-- For every state in ExpectType with a well-formed configuration and every byte b, the cell of
b's class writes b to typ and sets ps = InPayload, and nothing else (buf and len included);
BYTE(b) does the same for any of the 256 values and advances byte_count; typ is valid after
it. (R88.) -/
def Obligations.EveryByteIsAType : Prop :=
  ∀ (s : State) (b : Byte), s.cfg.WellFormed → s.ps = .expectType →
    (b = s.cfg.attn → exec (.expectTypeAttn b) s = .next { s with ps := .inPayload, typ := b }) ∧
    (b = s.cfg.stx → exec (.expectTypeStx b) s = .next { s with ps := .inPayload, typ := b }) ∧
    (b = s.cfg.etx → exec (.expectTypeEtx b) s = .next { s with ps := .inPayload, typ := b }) ∧
    (b = s.cfg.esc → exec (.expectTypeEsc b) s = .next { s with ps := .inPayload, typ := b }) ∧
    (classOf s.cfg b = .dataC → exec (.expectTypeData b) s = .next
        { s with ps := .inPayload, typ := b }) ∧
    exec (.byte b) s = .next
        { s with ps := .inPayload, typ := b, byteCount := (s.byteCount + 1) % 2 ^ s.cfg.cntW } ∧
    ∀ t, exec (.byte b) s = .next t → t.typValid = true

/-- For every state in InPayload with a well-formed configuration and any byte b that is neither
ETX nor ESC (raw ATTN and STX included): if len < MAXLEN, b is written to buffer cell len,
len is advanced and ps stays InPayload; otherwise the frame is abandoned. Nothing else
changes, but for byte_count in the event form. That a cleared register stores 0x00 is the
spec's own choice (R33: 'This spec stores 0x00', decision D11; notes/assumptions/13.md).
(R90, D11 (92_eei_decisions.md).) -/
def Obligations.PayloadByteIsAppendedOrAbandons : Prop :=
  ∀ (s : State) (b : Byte), s.cfg.WellFormed → s.ps = .inPayload →
    (b = s.cfg.attn → exec (.inPayloadAttn b) s =
      if s.len < s.cfg.maxLen
      then .next { s with ps := .inPayload, buf := s.buf.write s.len b, len := s.len + 1 }
      else .next { s with ps := .idle, dest := 0x00, typ := 0x00, buf := [], len := 0 }) ∧
    (b = s.cfg.stx → exec (.inPayloadStx b) s =
      if s.len < s.cfg.maxLen
      then .next { s with ps := .inPayload, buf := s.buf.write s.len b, len := s.len + 1 }
      else .next { s with ps := .idle, dest := 0x00, typ := 0x00, buf := [], len := 0 }) ∧
    (classOf s.cfg b = .dataC → exec (.inPayloadData b) s =
      if s.len < s.cfg.maxLen
      then .next { s with ps := .inPayload, buf := s.buf.write s.len b, len := s.len + 1 }
      else .next { s with ps := .idle, dest := 0x00, typ := 0x00, buf := [], len := 0 }) ∧
    (b ≠ s.cfg.etx → b ≠ s.cfg.esc → exec (.byte b) s =
      if s.len < s.cfg.maxLen
      then .next
          { s with ps := .inPayload, buf := s.buf.write s.len b, len := s.len + 1,
                   byteCount := (s.byteCount + 1) % 2 ^ s.cfg.cntW }
      else .next
          { s with ps := .idle, dest := 0x00, typ := 0x00, buf := [], len := 0,
                   byteCount := (s.byteCount + 1) % 2 ^ s.cfg.cntW })

/-- For every state in InPayload with a well-formed configuration and b = ETX, whatever len is:
frames_seen advances by 1; exactly if dest is BCAST or NODE_ID, frames_processed advances by
1 and one DISPATCH output with dest, typ and buf[0 .. len-1] in index order is added; dest,
typ and len are cleared and ps = Idle. Nothing else changes, but for byte_count in the event
form. That a cleared register stores 0x00 is the spec's own choice (R33: 'This spec stores
0x00', decision D11; notes/assumptions/13.md). (R89, D11 (92_eei_decisions.md).) -/
def Obligations.EndByteCompletesTheFrame : Prop :=
  ∀ (s : State) (b : Byte), s.cfg.WellFormed → s.ps = .inPayload → b = s.cfg.etx →
    exec (.inPayloadEtx b) s = .next
        { s with
          ps := .idle, dest := 0x00, typ := 0x00, buf := [], len := 0,
          framesSeen := (s.framesSeen + 1) % 2 ^ s.cfg.cntW,
          framesProcessed := if s.dest = s.cfg.bcast ∨ s.dest = s.cfg.nodeId
            then (s.framesProcessed + 1) % 2 ^ s.cfg.cntW else s.framesProcessed,
          output := if s.dest = s.cfg.bcast ∨ s.dest = s.cfg.nodeId
            then s.output ++ [⟨s.dest, s.typ, (List.range s.len).map s.bufRead⟩] else s.output } ∧
    exec (.byte b) s = .next
        { s with
          ps := .idle, dest := 0x00, typ := 0x00, buf := [], len := 0,
          framesSeen := (s.framesSeen + 1) % 2 ^ s.cfg.cntW,
          framesProcessed := if s.dest = s.cfg.bcast ∨ s.dest = s.cfg.nodeId
            then (s.framesProcessed + 1) % 2 ^ s.cfg.cntW else s.framesProcessed,
          output := if s.dest = s.cfg.bcast ∨ s.dest = s.cfg.nodeId
            then s.output ++ [⟨s.dest, s.typ, (List.range s.len).map s.bufRead⟩] else s.output,
          byteCount := (s.byteCount + 1) % 2 ^ s.cfg.cntW }

/-- For every state in InPayload with a well-formed configuration and b = ESC, whatever len is,
the cell sets ps = EscapeNext and nothing else; BYTE(b) does the same and advances
byte_count. From every other state no byte, ESC included, leads to EscapeNext. (R100.) -/
def Obligations.EscapePrefixIsNotStored : Prop :=
  (∀ (s : State) (b : Byte), s.cfg.WellFormed → s.ps = .inPayload → b = s.cfg.esc →
    exec (.inPayloadEsc b) s = .next { s with ps := .escapeNext } ∧
    exec (.byte b) s = .next
        { s with ps := .escapeNext, byteCount := (s.byteCount + 1) % 2 ^ s.cfg.cntW }) ∧
  ∀ (s : State) (b : Byte), s.cfg.WellFormed → s.ps ≠ .inPayload →
    ∃ t, exec (.byte b) s = .next t ∧ t.ps ≠ .escapeNext

/-- For every state in EscapeNext with a well-formed configuration: a byte b equal to ATTN, STX,
ETX or ESC under either policy, and any other byte when STRICT_ESCAPE is false, is appended
as payload (written to buffer cell len, len advanced, ps = InPayload) if len < MAXLEN, and
otherwise the frame is abandoned. Nothing else changes, but for byte_count in the event
form. That a cleared register stores 0x00 is the spec's own choice (R33: 'This spec stores
0x00', decision D11; notes/assumptions/13.md). (R101, D11 (92_eei_decisions.md).) -/
def Obligations.EscapedByteIsLiteral : Prop :=
  ∀ (s : State) (b : Byte), s.cfg.WellFormed → s.ps = .escapeNext →
    (b = s.cfg.attn → exec (.escapeNextAttn b) s =
      if s.len < s.cfg.maxLen
      then .next { s with ps := .inPayload, buf := s.buf.write s.len b, len := s.len + 1 }
      else .next { s with ps := .idle, dest := 0x00, typ := 0x00, buf := [], len := 0 }) ∧
    (b = s.cfg.stx → exec (.escapeNextStx b) s =
      if s.len < s.cfg.maxLen
      then .next { s with ps := .inPayload, buf := s.buf.write s.len b, len := s.len + 1 }
      else .next { s with ps := .idle, dest := 0x00, typ := 0x00, buf := [], len := 0 }) ∧
    (b = s.cfg.etx → exec (.escapeNextEtx b) s =
      if s.len < s.cfg.maxLen
      then .next { s with ps := .inPayload, buf := s.buf.write s.len b, len := s.len + 1 }
      else .next { s with ps := .idle, dest := 0x00, typ := 0x00, buf := [], len := 0 }) ∧
    (b = s.cfg.esc → exec (.escapeNextEsc b) s =
      if s.len < s.cfg.maxLen
      then .next { s with ps := .inPayload, buf := s.buf.write s.len b, len := s.len + 1 }
      else .next { s with ps := .idle, dest := 0x00, typ := 0x00, buf := [], len := 0 }) ∧
    (classOf s.cfg b = .dataC → s.cfg.strictEscape = false → exec (.escapeNextDataLiberal b) s =
      if s.len < s.cfg.maxLen
      then .next { s with ps := .inPayload, buf := s.buf.write s.len b, len := s.len + 1 }
      else .next { s with ps := .idle, dest := 0x00, typ := 0x00, buf := [], len := 0 }) ∧
    (classOf s.cfg b ≠ .dataC ∨ s.cfg.strictEscape = false → exec (.byte b) s =
      if s.len < s.cfg.maxLen
      then .next
          { s with ps := .inPayload, buf := s.buf.write s.len b, len := s.len + 1,
                   byteCount := (s.byteCount + 1) % 2 ^ s.cfg.cntW }
      else .next
          { s with ps := .idle, dest := 0x00, typ := 0x00, buf := [], len := 0,
                   byteCount := (s.byteCount + 1) % 2 ^ s.cfg.cntW })

/-- For every state in EscapeNext with a well-formed configuration whose STRICT_ESCAPE is true,
and every byte b that is none of the four structural values, the cell abandons the frame;
BYTE(b) does the same and advances byte_count. (The spec marks the action as its own
decision D8.) That a cleared register stores 0x00 is the spec's own choice (R33: 'This spec
stores 0x00', decision D11; notes/assumptions/13.md). (41_escape_decoder.md, D8
(92_eei_decisions.md), D11 (92_eei_decisions.md).) -/
def Obligations.StrictPolicyAbandons : Prop :=
  ∀ (s : State) (b : Byte), s.cfg.WellFormed → s.ps = .escapeNext →
    s.cfg.strictEscape = true → classOf s.cfg b = .dataC →
    exec (.escapeNextDataStrict b) s = .next
      { s with ps := .idle, dest := 0x00, typ := 0x00, buf := [], len := 0 } ∧
    exec (.byte b) s = .next
      { s with ps := .idle, dest := 0x00, typ := 0x00, buf := [], len := 0,
               byteCount := (s.byteCount + 1) % 2 ^ s.cfg.cntW }

/-- For every state with a well-formed configuration, TICK answers the same state with
tick_count advanced. (R134.) -/
def Obligations.TickCountsAlone : Prop :=
  ∀ s : State, s.cfg.WellFormed →
    exec .tick s = .next { s with tickCount := (s.tickCount + 1) % 2 ^ s.cfg.cntW }

/-- For every state with a well-formed configuration, READ_ANOMALY answers the very same state.
(R135.) -/
def Obligations.ReadAnomalyIsANoOp : Prop :=
  ∀ s : State, s.cfg.WellFormed → exec .readAnomaly s = .next s

/-- For every state for which a well-formed configuration is supplied, RESET answers a next
state with ps = Idle, dest and typ cleared, len 0 and no buffer cell holding a value, all
four counters 0, and the outputs as they were. That RESET is construction and zeroes the
counters is the spec's own choice (decision D9; notes/assumptions/14.md). That a cleared
register stores 0x00 is the spec's own choice (R33: 'This spec stores 0x00', decision D11;
notes/assumptions/13.md). (70_reset_and_hazards.md, D9 (92_eei_decisions.md), D11
(92_eei_decisions.md).) -/
def Obligations.ResetClearsFrameAndCounters : Prop :=
  ∀ s : State, s.cfgIn.WellFormed →
    ∃ t, exec .reset s = .next t ∧
      t.ps = .idle ∧ t.dest = 0x00 ∧ t.typ = 0x00 ∧ t.len = 0 ∧ (∀ a, t.buf.read? a = none) ∧
      t.tickCount = 0 ∧ t.byteCount = 0 ∧ t.framesSeen = 0 ∧ t.framesProcessed = 0 ∧
      t.output = s.output

/-- For every state for which a well-formed configuration is supplied, RESET answers exactly the
state right after construction with that configuration, but for the host's remaining events
and the outputs already made, which stay. That the supplied configuration stands in the
field cfgIn is the model's choice (notes/assumptions/2.md). That a cleared register stores
0x00 is the spec's own choice (R33: 'This spec stores 0x00', decision D11;
notes/assumptions/13.md). That RESET is construction and zeroes the counters is the spec's
own choice (decision D9; notes/assumptions/14.md). (R27, R171, 70_reset_and_hazards.md, D9
(92_eei_decisions.md), D11 (92_eei_decisions.md).) -/
def Obligations.ResetIsConstruction : Prop :=
  ∀ s : State, s.cfgIn.WellFormed →
    exec .reset s = .next
      { State.resetWith s.cfgIn with input := s.input, output := s.output }

/-- For every configuration, the state right after reset has ps = Idle, len = 0, no buffer cell
holding a value, dest and typ cleared (stored value 0x00) and not valid, and all four
counters 0; and the model's reset state is such a state. That the counters start at 0 is the
spec's own choice (decision D9; notes/assumptions/14.md). That a cleared register stores
0x00 is the spec's own choice (R33: 'This spec stores 0x00', decision D11;
notes/assumptions/13.md). (10_state.md, D9 (92_eei_decisions.md), D11
(92_eei_decisions.md).) -/
def Obligations.ResetStateValues : Prop :=
  (∀ c : Config,
    let s := State.resetWith c
    s.ps = .idle ∧ s.len = 0 ∧ (∀ a, s.buf.read? a = none) ∧
    s.dest = 0x00 ∧ s.typ = 0x00 ∧ s.destValid = false ∧ s.typValid = false ∧
    s.tickCount = 0 ∧ s.byteCount = 0 ∧ s.framesSeen = 0 ∧ s.framesProcessed = 0) ∧
  ∃ c : Config, State.reset = State.resetWith c

/-- For every state whose configuration is not well formed, BYTE, TICK and READ_ANOMALY are
refused by name, and so is every cell row: as ill formed if it is the one the opcode map
gives for the parse state and the class of its byte, as not selected if it is any other. For
every state for which no well-formed configuration is supplied, RESET is refused by name.
(That a configuration with CNT_W = 0 counts as ill formed is DEDUCED,
notes/assumptions/4.md; the two refusals of a cell row are the model's choice,
notes/assumptions/7.md and 10.md.) (R6, U10 (93_implementation_defined.md), D21
(92_eei_decisions.md).) -/
def Obligations.IllFormedConfigurationIsRefused : Prop :=
  ∀ s : State,
    (¬ s.cfg.WellFormed →
      (∀ b, exec (.byte b) s = .refused .illFormedConfig) ∧
      exec .tick s = .refused .illFormedConfig ∧
      exec .readAnomaly s = .refused .illFormedConfig ∧
      ∀ (i : Instr) (p : ParseState) (k : ByteClass) (b : Byte), i.cell? = some (p, k, b) →
        exec i s = if i = cellOf s.cfg s.ps b then .refused .illFormedConfig
          else .refused .cellNotSelected) ∧
    (¬ s.cfgIn.WellFormed → exec .reset s = .refused .illFormedConfig)

/-- For every state and byte b: if len < MAXLEN, append succeeds, cell len reads b afterwards,
every other cell reads as before, len is advanced by 1 and nothing but buf and len differs;
otherwise it answers overflow and the state is the very same. (R110.) -/
def Obligations.AppendIsAllOrNothing : Prop :=
  ∀ (s : State) (b : Byte),
    (s.len < s.cfg.maxLen →
      ∃ m : Memory, s.append b = ({ s with buf := m, len := s.len + 1 }, .success) ∧
        m.read? s.len = some b ∧ ∀ a, a ≠ s.len → m.read? a = s.buf.read? a) ∧
    (¬ s.len < s.cfg.maxLen → s.append b = (s, .overflow))

/-- For every state, reset() clears dest and typ and sets len to 0 so that no buffer cell holds
a value, leaves every other field as it was (ps and the counters included), and doing it
twice is doing it once. That a cleared register stores 0x00 is the spec's own choice (R33:
'This spec stores 0x00', decision D11; notes/assumptions/13.md). (R111, D11
(92_eei_decisions.md).) -/
def Obligations.ResetOfTheFrameIsIdempotent : Prop :=
  ∀ s : State,
    s.resetFrame = { s with dest := 0x00, typ := 0x00, buf := [], len := 0 } ∧
    (∀ a, s.resetFrame.buf.read? a = none) ∧ s.resetFrame.payload = [] ∧
    s.resetFrame.resetFrame = s.resetFrame

/-- For every state, abandon() gives the same state with ps = Idle, dest and typ cleared and len
0; so the outputs, the four counters and the configuration are as they were; and doing it
twice is doing it once. That a cleared register stores 0x00 is the spec's own choice (R33:
'This spec stores 0x00', decision D11; notes/assumptions/13.md). (R91, D11
(92_eei_decisions.md).) -/
def Obligations.AbandonIsIdempotentAndSilent : Prop :=
  ∀ s : State,
    s.abandon = { s with ps := .idle, dest := 0x00, typ := 0x00, buf := [], len := 0 } ∧
    s.abandon.abandon = s.abandon

/-- For every buffer, canonical or not, every index and byte: after the write that index reads
the byte, every other index reads as before, and a canonical buffer stays canonical. The
canonical form (indices strictly rising) is the model's representation of the buffer and no
rule of the spec (notes/assumptions/9.md, DESIGN CHOICE). (R24, R40, R44.) -/
def Obligations.BufferReadAfterWrite : Prop :=
  ∀ (m : Memory) (a : Nat) (b : Byte),
    (m.write a b).read? a = some b ∧
    (∀ a', a' ≠ a → (m.write a b).read? a' = m.read? a') ∧
    (m.wf → (m.write a b).wf)

/-- For every state with room in the buffer, the payload after appending b is the payload
before, followed by b; its length is len; and in a state that satisfies the invariant it is
exactly the bytes that the buffer lists, in order. (R42, R45, R110.) -/
def Obligations.PayloadGrowsInArrivalOrder : Prop :=
  ∀ (s : State) (b : Byte),
    (s.len < s.cfg.maxLen → (s.append b).1.payload = s.payload ++ [b]) ∧
    s.payload.length = s.len ∧
    (FrameInv s → s.payload = s.buf.map Prod.snd)

/-- For every BYTE event that answers a next state, the parse state, the byte and the room left
decide which of three things happened. A byte that is payload there (in InPayload neither
ETX nor ESC, in EscapeNext one the policy admits) and has room was stored at index len,
computed in the state before the event: that cell reads it, every other cell reads as
before, and len grew by 1, staying within MAXLEN. Otherwise, in SawStart, in EscapeNext, in
InPayload on any byte but ESC and in SawAttention on any byte but ATTN, the frame was
cleared: len is 0, no cell holds a value, and ps is ExpectDestination after STX in SawStart
and Idle after every other. Otherwise len and every cell are as before. That the strict
policy abandons the frame is the spec's own choice (decision D8; notes/assumptions/14.md).
That a third ATTN, like every rejected byte, ends in Idle and is not looked at again is the
spec's own literal reading of its source's table (decision D14, U7;
notes/assumptions/14.md). (R24, R44, R114, D8 (92_eei_decisions.md), D14
(92_eei_decisions.md).) -/
def Obligations.BufferChangesOnlyByAppendOrReset : Prop :=
  ∀ (s t : State) (b : Byte), exec (.byte b) s = .next t →
    if ((s.ps = .inPayload ∧ b ≠ s.cfg.etx ∧ b ≠ s.cfg.esc) ∨
        (s.ps = .escapeNext ∧ ¬ (s.cfg.strictEscape = true ∧ classOf s.cfg b = .dataC))) ∧
        s.len < s.cfg.maxLen then
      t.ps = .inPayload ∧ t.len = s.len + 1 ∧ t.len ≤ s.cfg.maxLen ∧
      t.buf.read? s.len = some b ∧ ∀ a, a ≠ s.len → t.buf.read? a = s.buf.read? a
    else if s.ps = .sawStart ∨ s.ps = .escapeNext ∨ (s.ps = .inPayload ∧ b ≠ s.cfg.esc) ∨
        (s.ps = .sawAttention ∧ b ≠ s.cfg.attn) then
      t.ps = (if s.ps = .sawStart ∧ b = s.cfg.stx then .expectDestination else .idle) ∧
      t.len = 0 ∧ ∀ a, t.buf.read? a = none
    else t.len = s.len ∧ ∀ a, t.buf.read? a = s.buf.read? a

/-- For every BYTE event that answers a next state: dest is as before, or is b and the parse
state was ExpectDestination, or was cleared with the frame; and likewise typ with
ExpectType. That a cleared register stores 0x00 is the spec's own choice (R33: 'This spec
stores 0x00', decision D11; notes/assumptions/13.md). (R22, R23, R114, D11
(92_eei_decisions.md).) -/
def Obligations.FrameRegistersChangeOnlyInTheHeader : Prop :=
  ∀ (s t : State) (b : Byte), exec (.byte b) s = .next t →
    (t.dest = s.dest ∨ (s.ps = .expectDestination ∧ t.dest = b) ∨
      ((t.ps = .idle ∨ t.ps = .expectDestination) ∧ t.dest = 0x00)) ∧
    (t.typ = s.typ ∨ (s.ps = .expectType ∧ t.typ = b) ∨
      ((t.ps = .idle ∨ t.ps = .expectDestination) ∧ t.typ = 0x00))

/-- For every configuration and every byte d, accept(d) is true if and only if d = BCAST or d =
NODE_ID. (R120.) -/
def Obligations.FilterAcceptsOwnAndBroadcastOnly : Prop :=
  ∀ (c : Config) (d : Byte), accept c d = true ↔ d = c.bcast ∨ d = c.nodeId

/-- For every state in InPayload with a well-formed configuration whose dest is neither BCAST
nor NODE_ID, ETX advances frames_seen and byte_count, clears the frame and returns to Idle;
frames_processed and the outputs are unchanged. That a cleared register stores 0x00 is the
spec's own choice (R33: 'This spec stores 0x00', decision D11; notes/assumptions/13.md).
(R155, D11 (92_eei_decisions.md).) -/
def Obligations.MisaddressedFrameIsSeenOnly : Prop :=
  ∀ s : State, s.cfg.WellFormed → s.ps = .inPayload →
    s.dest ≠ s.cfg.bcast → s.dest ≠ s.cfg.nodeId →
    exec (.byte s.cfg.etx) s = .next
      { s with ps := .idle, dest := 0x00, typ := 0x00, buf := [], len := 0,
               framesSeen := (s.framesSeen + 1) % 2 ^ s.cfg.cntW,
               byteCount := (s.byteCount + 1) % 2 ^ s.cfg.cntW }

/-- For every BYTE event that answers a next state: byte_count advances by 1; tick_count is as
before; frames_seen advances by 1 exactly if the byte is ETX in InPayload, and
frames_processed exactly if, besides, the destination is accepted (all modulo 2^CNT_W);
otherwise both are as before. (R130, R131, R132, R133, R139.) -/
def Obligations.CountersMoveOnlyAtTheirOwnOccurrence : Prop :=
  ∀ (s t : State) (b : Byte), exec (.byte b) s = .next t →
    t.byteCount = (s.byteCount + 1) % 2 ^ s.cfg.cntW ∧ t.tickCount = s.tickCount ∧
    t.framesSeen = (if s.ps = .inPayload ∧ b = s.cfg.etx
      then (s.framesSeen + 1) % 2 ^ s.cfg.cntW else s.framesSeen) ∧
    t.framesProcessed = (if s.ps = .inPayload ∧ b = s.cfg.etx ∧
        (s.dest = s.cfg.bcast ∨ s.dest = s.cfg.nodeId)
      then (s.framesProcessed + 1) % 2 ^ s.cfg.cntW else s.framesProcessed)

/-- For every step that answers a next state: if the event is BYTE(ETX), the parse state is
InPayload and the destination is accepted, exactly one output is added, the Completed Frame;
in every other case, RESET, TICK and READ_ANOMALY included, the outputs are as before. (R95,
R122, R125.) -/
def Obligations.DispatchOnlyAtAnAcceptedFrameEnd : Prop :=
  ∀ s t : State, step s = .next t →
    ((∃ rest, s.input = .byte s.cfg.etx :: rest) ∧ s.ps = .inPayload ∧
        (s.dest = s.cfg.bcast ∨ s.dest = s.cfg.nodeId) ∧
        t.output = s.output ++ [⟨s.dest, s.typ, s.payload⟩]) ∨
    (¬ ((∃ rest, s.input = .byte s.cfg.etx :: rest) ∧ s.ps = .inPayload ∧
        (s.dest = s.cfg.bcast ∨ s.dest = s.cfg.nodeId)) ∧
      t.output = s.output)

/-- For every step that answers a next state, either the next event was RESET and the
configuration is the supplied one, or the configuration is as before; the supplied
configuration is as before in either case. That the supplied configuration stands in the
field cfgIn, which no event writes, is the model's choice (notes/assumptions/2.md, DESIGN
CHOICE) and does not follow from the cited rules. (R27, R160, R170.) -/
def Obligations.ConfigurationIsConstantButForReset : Prop :=
  ∀ s t : State, step s = .next t →
    t.cfgIn = s.cfgIn ∧
    (t.cfg = s.cfg ∨ ∃ rest, s.input = .reset :: rest ∧ t.cfg = s.cfgIn)

/-- For every width w and every n below 2^w, inc gives n + 1 if that is below 2^w, and 0 if n =
2^w - 1; the result is below 2^w. That a counter has a width and wraps is the spec's own
choice (decision D10; notes/assumptions/12.md). (44_counters_and_pump.md, D10
(92_eei_decisions.md).) -/
def Obligations.CounterWrapsAtItsWidth : Prop :=
  ∀ w n : Nat, n < 2 ^ w →
    inc w n = (if n = 2 ^ w - 1 then 0 else n + 1) ∧ inc w n < 2 ^ w

/-- For every state with a well-formed configuration and every byte that is out of place (class
a) or overflows (class b) there, BYTE answers the state with ps = Idle, the frame cleared,
byte_count advanced, and everything else as before: no output, no other counter, no record
of the cause. That a cleared register stores 0x00 is the spec's own choice (R33: 'This spec
stores 0x00', decision D11; notes/assumptions/13.md). That the strict policy abandons the
frame is the spec's own choice (decision D8; notes/assumptions/14.md). That a third ATTN,
like every rejected byte, ends in Idle and is not looked at again is the spec's own literal
reading of its source's table (decision D14, U7; notes/assumptions/14.md). (R91, R95, R152,
R153, R157, D8 (92_eei_decisions.md), D11 (92_eei_decisions.md), D14 (92_eei_decisions.md).) -/
def Obligations.MalformedOrOverflowAbandonsAtOnce : Prop :=
  ∀ (s : State) (b : Byte), s.cfg.WellFormed →
    s.byteError b = some .malformed ∨ s.byteError b = some .overflow →
    exec (.byte b) s = .next
        { s with ps := .idle, dest := 0x00, typ := 0x00, buf := [], len := 0,
                 byteCount := (s.byteCount + 1) % 2 ^ s.cfg.cntW }

/-- For every state outside Idle and every BYTE event that answers a next state, that state is
Idle if and only if the byte was out of place, or overflowed, or was ETX in InPayload. The
classes are those the spec lists: out of place is a byte other than ATTN in SawAttention,
other than STX in SawStart, or (strict policy) not structural in EscapeNext; overflow is an
attempted append with no room. That the strict policy abandons the frame is the spec's own
choice (decision D8; notes/assumptions/14.md). That a third ATTN, like every rejected byte,
ends in Idle and is not looked at again is the spec's own literal reading of its source's
table (decision D14, U7; notes/assumptions/14.md). (R91, R93, R152, R153, D8
(92_eei_decisions.md), D14 (92_eei_decisions.md).) -/
def Obligations.IdleIsReachedOnlyByAbandonOrCompletion : Prop :=
  ∀ (s t : State) (b : Byte), exec (.byte b) s = .next t → s.ps ≠ .idle →
    (t.ps = .idle ↔
      (s.ps = .sawAttention ∧ b ≠ s.cfg.attn) ∨ (s.ps = .sawStart ∧ b ≠ s.cfg.stx) ∨
      (s.ps = .escapeNext ∧ s.cfg.strictEscape = true ∧ classOf s.cfg b = .dataC) ∨
      (s.ps = .inPayload ∧ b ≠ s.cfg.etx ∧ b ≠ s.cfg.esc ∧ s.cfg.maxLen ≤ s.len) ∨
      (s.ps = .escapeNext ∧ s.cfg.maxLen ≤ s.len) ∨
      (s.ps = .inPayload ∧ b = s.cfg.etx))

/-- For every state that satisfies the invariant (well-formed configuration; len at most MAXLEN;
exactly the cells below len hold a value; before ExpectType the frame is empty and cleared,
in ExpectType all but the destination; every counter below 2^CNT_W), reached by a run or
not, and every step that answers a next state, the next state satisfies it too. That a
cleared register stores 0x00 is the spec's own choice (R33: 'This spec stores 0x00',
decision D11; notes/assumptions/13.md). (R24, R25, R31, R113, R139.) -/
def Obligations.StepKeepsTheFrameInvariant : Prop :=
  ∀ s t : State, FrameInv s → step s = .next t → FrameInv t

/-- For every well-formed configuration the state right after reset satisfies the invariant, and
the model's reset state does. (The configuration of the model's reset state is its own
choice, notes/assumptions/1.md.) That a cleared register stores 0x00 is the spec's own
choice (R33: 'This spec stores 0x00', decision D11; notes/assumptions/13.md). That the
counters start at 0 is the spec's own choice (decision D9; notes/assumptions/14.md). (R25,
R31, R171, 10_state.md, D9 (92_eei_decisions.md), D11 (92_eei_decisions.md).) -/
def Obligations.ResetHasTheFrameInvariant : Prop :=
  (∀ c : Config, c.WellFormed → FrameInv (State.resetWith c)) ∧ FrameInv State.reset

/-- For every state whose buffer is canonical (indices strictly rising), whatever else it holds,
and every step that answers a next state, the next state's buffer is canonical. The
canonical form (indices strictly rising) is the model's representation of the buffer and no
rule of the spec (notes/assumptions/9.md, DESIGN CHOICE). (R24, R40, R41.) -/
def Obligations.StepKeepsTheBufferCanonical : Prop :=
  ∀ s t : State, s.buf.wf → step s = .next t → t.buf.wf

/-- For every state in which six times frames_seen, plus the bytes the frame in progress has
taken at least, is at most byte_count, and whose byte_count is not about to wrap, every step
that answers a next state keeps that; so six times frames_seen is at most byte_count. (R62,
R141.) -/
def Obligations.SixBytesPerFrameSeen : Prop :=
  ∀ s t : State, s.accounted → s.byteCount + 1 < 2 ^ s.cfg.cntW → step s = .next t →
    t.accounted ∧ 6 * t.framesSeen ≤ t.byteCount

/-- For every state with frames_processed at most frames_seen, whose frames_seen is not about to
wrap, every step that answers a next state keeps that. (R125, R141.) -/
def Obligations.ProcessedNeverExceedsSeen : Prop :=
  ∀ s t : State, s.framesProcessed ≤ s.framesSeen → s.framesSeen + 1 < 2 ^ s.cfg.cntW →
    step s = .next t → t.framesProcessed ≤ t.framesSeen

/-- For every instruction and every two states that differ at most in the four counters, if one
answers a next state, so does the other, and the two next states differ at most in the
counters. (R26, R130.) -/
def Obligations.CountersHaveNoBehaviouralEffect : Prop :=
  ∀ (i : Instr) (s t s' : State), sameButCounters s t → exec i s = .next s' →
    ∃ t', exec i t = .next t' ∧ sameButCounters s' t'

/-- For every instruction and every two states that differ at most in NODE_ID and BCAST (of the
instance and of the configuration supplied for the next RESET), frames_processed and the
outputs, if one answers a next state, so does the other, and the two next states differ at
most in those. (R70, R120.) -/
def Obligations.FilterDoesNotInfluenceTheFsm : Prop :=
  ∀ (i : Instr) (s t s' : State), sameButAddress s t → exec i s = .next s' →
    ∃ t', exec i t = .next t' ∧ sameButAddress s' t'

/-- For every state in Idle with a well-formed configuration (either policy, whatever its other
registers hold), every destination, type and payload of at most MAXLEN bytes, and whatever
events come after: feeding ENC(d, t, p) as BYTE events ends in Idle with an empty frame,
byte_count advanced by the length of the encoding, frames_seen by 1, and if d is BCAST or
NODE_ID, frames_processed by 1 and exactly the output (d, t, p); otherwise no output. That a
cleared register stores 0x00 is the spec's own choice (R33: 'This spec stores 0x00',
decision D11; notes/assumptions/13.md). That MAXLEN payload bytes fit beside the type byte
is the spec's own choice (decision D7, U14; notes/assumptions/14.md). (R62, R63, R68, R71,
R105, D7 (92_eei_decisions.md), D11 (92_eei_decisions.md).) -/
def Obligations.EncodedFrameIsDecoded : Prop :=
  ∀ (s : State) (d ty : Byte) (p : List Byte) (rest : List Event), s.cfg.WellFormed →
    s.ps = .idle → p.length ≤ s.cfg.maxLen →
    let w := wireFrame s.cfg d ty p
    Sys2Proof.core.run w.length { s with input := w.map .byte ++ rest } = .next
      { s with
        ps := .idle, dest := 0x00, typ := 0x00, buf := [], len := 0, input := rest,
        byteCount := (s.byteCount + w.length) % 2 ^ s.cfg.cntW,
        framesSeen := (s.framesSeen + 1) % 2 ^ s.cfg.cntW,
        framesProcessed := if d = s.cfg.bcast ∨ d = s.cfg.nodeId
          then (s.framesProcessed + 1) % 2 ^ s.cfg.cntW else s.framesProcessed,
        output := if d = s.cfg.bcast ∨ d = s.cfg.nodeId
          then s.output ++ [⟨d, ty, p⟩] else s.output }

/-- For every state in Idle with a well-formed configuration, every destination and type, every
payload of exactly MAXLEN bytes and one further payload byte x: feeding the header, the
encoded payload and the encoded x ends in Idle with an empty frame and no output, and
frames_seen and frames_processed as they were; only byte_count has moved. That a cleared
register stores 0x00 is the spec's own choice (R33: 'This spec stores 0x00', decision D11;
notes/assumptions/13.md). That MAXLEN payload bytes fit beside the type byte is the spec's
own choice (decision D7, U14; notes/assumptions/14.md). (R95, R110, R115, D7
(92_eei_decisions.md), D11 (92_eei_decisions.md).) -/
def Obligations.OverlongPayloadIsAbandoned : Prop :=
  ∀ (s : State) (d ty x : Byte) (p : List Byte) (rest : List Event), s.cfg.WellFormed →
    s.ps = .idle → p.length = s.cfg.maxLen →
    let w := wireHeader s.cfg d ty ++ wirePayload s.cfg (p ++ [x])
    Sys2Proof.core.run w.length { s with input := w.map .byte ++ rest } = .next
      { s with
        ps := .idle, dest := 0x00, typ := 0x00, buf := [], len := 0, input := rest,
        byteCount := (s.byteCount + w.length) % 2 ^ s.cfg.cntW }

/-- For every state in InPayload with a well-formed configuration and room in the buffer, and
every byte x: the two events BYTE(ESC), BYTE(x), with any events TICK and READ_ANOMALY
between them, append the one byte x to the payload and end in InPayload if the policy is
liberal or x is structural; under the strict policy any other x abandons the frame. That a
cleared register stores 0x00 is the spec's own choice (R33: 'This spec stores 0x00',
decision D11; notes/assumptions/13.md). That the strict policy abandons the frame is the
spec's own choice (decision D8; notes/assumptions/14.md). (R63, R101, R104, R105,
41_escape_decoder.md, D8 (92_eei_decisions.md), D11 (92_eei_decisions.md).) -/
def Obligations.EscapedPairIsOneByte : Prop :=
  ∀ (s : State) (x : Byte) (mid : List Event), s.cfg.WellFormed → s.ps = .inPayload →
    s.len < s.cfg.maxLen → (∀ e ∈ mid, e = .tick ∨ e = .readAnomaly) →
    ∃ t : State, Sys2Proof.core.run (mid.length + 2) { s with
        input := .byte s.cfg.esc :: (mid ++ [.byte x]) } = .next t ∧
      t.input = [] ∧
      (s.cfg.strictEscape = false ∨ classOf s.cfg x ≠ .dataC →
        t.ps = .inPayload ∧ t.dest = s.dest ∧ t.typ = s.typ ∧ t.payload = s.payload ++ [x]) ∧
      (s.cfg.strictEscape = true → classOf s.cfg x = .dataC → t.ps = .idle ∧ t.frameCleared)

/-- For every state with a well-formed configuration and every sequence of TICK, READ_ANOMALY
and BYTE events: running all of it and running its BYTE events alone end in states, and so
outputs, that differ at most in tick_count. (R46, R50, R95.) -/
def Obligations.SplittingTheStreamChangesOnlyTicks : Prop :=
  ∀ (s : State) (es : List Event), s.cfg.WellFormed → (∀ e ∈ es, e ≠ .reset) →
    let bs := es.filter fun e => e ≠ .tick ∧ e ≠ .readAnomaly
    ∃ t t' : State, Sys2Proof.core.run es.length { s with input := es } = .next t ∧
      Sys2Proof.core.run bs.length { s with input := bs } = .next t' ∧ sameButTicks t t'

/-- For every state with a well-formed configuration and every sequence of reads of one
invocation, bytes and anomalies in any order: running the events the pump issues answers a
next state in which tick_count has advanced by 1 and byte_count by the number of bytes read,
modulo 2^CNT_W; with no byte read, nothing but tick_count has changed. (R134, R136, R141.) -/
def Obligations.PumpInvocationCounts : Prop :=
  ∀ (s : State) (reads : List SourceRead), s.cfg.WellFormed →
    s.byteCount < 2 ^ s.cfg.cntW →
    ∃ t : State, Sys2Proof.core.run (reads.length + 1) { s with input := pumpEvents reads } = .next t ∧
      t.input = [] ∧ t.tickCount = (s.tickCount + 1) % 2 ^ s.cfg.cntW ∧
      t.byteCount = (s.byteCount + bytesRead reads) % 2 ^ s.cfg.cntW ∧
      (bytesRead reads = 0 → t = { s with
        input := [], tickCount := (s.tickCount + 1) % 2 ^ s.cfg.cntW })

/-- For every well-formed configuration, every instruction well formed under it (all 36 cells
and 4 events, with every operand byte they admit) and whatever bytes follow, decoding the
encoding answers that instruction and those bytes. The record's layout is the model's own
(notes/assumptions/6.md). (R60, R64, R69, R70.) -/
def Obligations.DecodeOfEncodeIsTheInstruction : Prop :=
  ∀ (c : Config) (i : Instr) (rest : List Byte), c.WellFormed → i.WellFormed c →
    decode c (encode i ++ rest) = .ok (i, rest)

/-- Under the configuration of the reset state: records for the four events, for a cell of each
of the seven states, and for the two policies of EscapeNext x DATA_C decode to the
instruction they name, and four junk records to none. (The record layout and the
configuration are the model's own: notes/assumptions/6.md and 1.md.) (R60, R69,
notes/assumptions/6.md.) -/
def Obligations.ListedRecordsDecode : Prop :=
  decodeTableWord 16 0x0041 = some (.byte 0x41) ∧
  decodeTableWord 16 0x0100 = some .reset ∧
  decodeTableWord 16 0x0200 = some .tick ∧
  decodeTableWord 16 0x0300 = some .readAnomaly ∧
  decodeTableWord 16 0x80FF = some (.idleAttn 0xFF) ∧
  decodeTableWord 16 0x8102 = some (.sawAttentionStx 0x02) ∧
  decodeTableWord 16 0x8255 = some (.sawStartData 0x55) ∧
  decodeTableWord 16 0x8303 = some (.expectDestinationEtx 0x03) ∧
  decodeTableWord 16 0x8410 = some (.expectTypeEsc 0x10) ∧
  decodeTableWord 16 0x8503 = some (.inPayloadEtx 0x03) ∧
  decodeTableWord 16 0x86AA = some (.escapeNextDataLiberal 0xAA) ∧
  decodeTableWord 16 0x8EAA = some (.escapeNextDataStrict 0xAA) ∧
  decodeTableWord 16 0x0155 = none ∧ decodeTableWord 16 0x0400 = none ∧
  decodeTableWord 16 0x9000 = none ∧ decodeTableWord 24 0x010041 = none

/-- The seven parse states have the numbers 0 to 6 in the order Idle, SawAttention, SawStart,
ExpectDestination, ExpectType, InPayload, EscapeNext; each is read back from its number; and
the number 7 is read as Idle. The numbering is the spec's own choice (decision D11;
notes/assumptions/13.md). (10_state.md, D11 (92_eei_decisions.md).) -/
def Obligations.StateNumbersFollowTheListing : Prop :=
  stateNumber .idle = 0 ∧ stateNumber .sawAttention = 1 ∧ stateNumber .sawStart = 2 ∧
  stateNumber .expectDestination = 3 ∧ stateNumber .expectType = 4 ∧
  stateNumber .inPayload = 5 ∧ stateNumber .escapeNext = 6 ∧
  (∀ p, stateOfNumber (stateNumber p) = p) ∧ stateOfNumber 7 = .idle

/-- For every well-formed configuration: a byte is in ATTN_C, STX_C, ETX_C or ESC_C exactly if
it equals that constant, in DATA_C exactly if it equals none of the four, and exactly 252 of
the 256 byte values are in DATA_C. (R61.) -/
def Obligations.ClassesPartitionTheBytes : Prop :=
  ∀ c : Config, c.WellFormed →
    (∀ b, (classOf c b = .attnC ↔ b = c.attn) ∧ (classOf c b = .stxC ↔ b = c.stx) ∧
      (classOf c b = .etxC ↔ b = c.etx) ∧ (classOf c b = .escC ↔ b = c.esc) ∧
      (classOf c b = .dataC ↔ b ≠ c.attn ∧ b ≠ c.stx ∧ b ≠ c.etx ∧ b ≠ c.esc)) ∧
    ((List.finRange 256).filter fun n => classOf c (BitVec.ofFin n) = .dataC).length = 252

/-- For every state with a well-formed configuration and every sampled port cycle without rst:
the events of the cycle, in the order D16 gives, run to a next state, and so does the cycle
with tick and in_valid taken in the other order, to the same state; and the outputs grow, by
the frame the dispatch ports show, exactly when those ports are valid. The spec marks the
port binding as its own choice, not normative for a model. (D12, D16 (92_eei_decisions.md),
R156.) -/
def Obligations.PortOrderIsUnobservable : Prop :=
  ∀ (s : State) (p : PortIn), s.cfg.WellFormed → p.rst = false →
    ∃ t : State, Sys2Proof.core.run (portEvents p).length { s with input := portEvents p } = .next t ∧
      Sys2Proof.core.run (portEvents p).length { s with input := (portEvents p).reverse } = .next t ∧
      ((s.dispatchPorts p = none ∧ t.output = s.output) ∨
        ∃ d, s.dispatchPorts p = some d ∧ d.len = s.len ∧ d.payload.length = s.cfg.maxLen ∧
          t.output = s.output ++ [⟨d.dest, d.typ, s.payload⟩] ∧
          ∀ i, i < s.len → i < s.cfg.maxLen → d.payload[i]? = some (some (s.bufRead i)))
end

