-- ==== Sys2Proof/Laws/Memory.lean ====
section
/-!
SUPPORT. The buffer: what a read gives after a write, and that a write keeps the
canonical form.
-/

namespace Sys2Proof.Machine

@[simp] theorem Memory.read?_nil (a : Nat) : Memory.read? [] a = none := rfl

@[simp] theorem Memory.read?_cons (k : Nat) (v : Byte) (m : Memory) (a : Nat) :
    Memory.read? ((k, v) :: m) a = if k = a then some v else Memory.read? m a := rfl

/-- The written cell holds the byte. -/
theorem Memory.read?_write_self (m : Memory) (a : Nat) (b : Byte) :
    (Memory.write m a b).read? a = some b := by
  induction m with
  | nil => simp [Memory.write]
  | cons x m ih =>
    obtain ⟨k, v⟩ := x
    unfold Memory.write
    split
    · simp
    · split <;> simp_all

/-- Every other cell is as before. -/
theorem Memory.read?_write_of_ne (m : Memory) {a a' : Nat} (b : Byte) (h : a' ≠ a) :
    (Memory.write m a b).read? a' = m.read? a' := by
  induction m with
  | nil => simp [Memory.write, h.symm]
  | cons x m ih =>
    obtain ⟨k, v⟩ := x
    unfold Memory.write
    split
    · rename_i hk; subst hk; simp [h.symm]
    · split <;> simp [h.symm, ih]

/-- The indices after a write: the written one, and those before. -/
theorem Memory.mem_keys_write (m : Memory) (a : Nat) (b : Byte) {k : Nat}
    (h : k ∈ (Memory.write m a b).map Prod.fst) : k = a ∨ k ∈ m.map Prod.fst := by
  induction m with
  | nil => exact .inl (by simpa [Memory.write] using h)
  | cons x m ih =>
    obtain ⟨k', v⟩ := x
    unfold Memory.write at h
    split at h
    · rename_i hk; subst hk; simpa using h
    · split at h
      · simpa using h
      · simp only [List.map_cons, List.mem_cons] at h ⊢
        rcases h with h | h
        · exact .inr (.inl h)
        · exact (ih h).imp_right .inr

/-- A write keeps the canonical form. -/
theorem Memory.wf_write (m : Memory) (a : Nat) (b : Byte) (h : Memory.wf m) :
    Memory.wf (Memory.write m a b) := by
  induction m with
  | nil => simp [Memory.write, Memory.wf]
  | cons x m ih =>
    obtain ⟨k, v⟩ := x
    have hk : ∀ k' ∈ m.map Prod.fst, k < k' := (List.pairwise_cons.mp h).1
    have hm : Memory.wf m := (List.pairwise_cons.mp h).2
    unfold Memory.write
    split
    · rename_i e; subst e; exact h
    · split
      · rename_i lt
        refine List.pairwise_cons.mpr ⟨fun k' hk' => ?_, h⟩
        rcases List.mem_cons.mp hk' with e | e
        · exact e ▸ lt
        · exact lt.trans (hk _ e)
      · refine List.pairwise_cons.mpr ⟨fun k' hk' => ?_, ih hm⟩
        rcases Memory.mem_keys_write m a b hk' with e | e
        · omega
        · exact hk _ e

/-- Writing above every listed index puts the cell last. -/
theorem Memory.write_above (m : Memory) (a : Nat) (b : Byte)
    (h : ∀ k ∈ m.map Prod.fst, k < a) : Memory.write m a b = m ++ [(a, b)] := by
  induction m with
  | nil => rfl
  | cons x m ih =>
    obtain ⟨k, v⟩ := x
    have hk : k < a := h k (by simp)
    unfold Memory.write
    rw [if_neg (by omega), if_neg (by omega), ih fun k' hk' => h k' (by simp_all)]
    rfl

end Sys2Proof.Machine
end

