-- ==== Sys2Proof/Laws/State.lean ====
section
/-!
SUPPORT. One lemma per field per update of the state, each true by unfolding, so
that no later proof unfolds a record update.
-/

namespace Sys2Proof.Machine

@[simp] theorem State.setPs_cfg (p : ParseState) (s : State) : (s.setPs p).cfg = s.cfg := rfl
@[simp] theorem State.setPs_ps (p : ParseState) (s : State) : (s.setPs p).ps = p := rfl
@[simp] theorem State.setPs_dest (p : ParseState) (s : State) : (s.setPs p).dest = s.dest := rfl
@[simp] theorem State.setPs_typ (p : ParseState) (s : State) : (s.setPs p).typ = s.typ := rfl
@[simp] theorem State.setPs_buf (p : ParseState) (s : State) : (s.setPs p).buf = s.buf := rfl
@[simp] theorem State.setPs_len (p : ParseState) (s : State) : (s.setPs p).len = s.len := rfl
@[simp] theorem State.setPs_tickCount (p : ParseState) (s : State) : (s.setPs p).tickCount = s.tickCount := rfl
@[simp] theorem State.setPs_byteCount (p : ParseState) (s : State) : (s.setPs p).byteCount = s.byteCount := rfl
@[simp] theorem State.setPs_framesSeen (p : ParseState) (s : State) : (s.setPs p).framesSeen = s.framesSeen := rfl
@[simp] theorem State.setPs_framesProcessed (p : ParseState) (s : State) : (s.setPs p).framesProcessed = s.framesProcessed := rfl
@[simp] theorem State.setPs_cfgIn (p : ParseState) (s : State) : (s.setPs p).cfgIn = s.cfgIn := rfl
@[simp] theorem State.setPs_input (p : ParseState) (s : State) : (s.setPs p).input = s.input := rfl
@[simp] theorem State.setPs_output (p : ParseState) (s : State) : (s.setPs p).output = s.output := rfl

@[simp] theorem State.setDest_cfg (b : Byte) (s : State) : (s.setDest b).cfg = s.cfg := rfl
@[simp] theorem State.setDest_ps (b : Byte) (s : State) : (s.setDest b).ps = s.ps := rfl
@[simp] theorem State.setDest_dest (b : Byte) (s : State) : (s.setDest b).dest = b := rfl
@[simp] theorem State.setDest_typ (b : Byte) (s : State) : (s.setDest b).typ = s.typ := rfl
@[simp] theorem State.setDest_buf (b : Byte) (s : State) : (s.setDest b).buf = s.buf := rfl
@[simp] theorem State.setDest_len (b : Byte) (s : State) : (s.setDest b).len = s.len := rfl
@[simp] theorem State.setDest_tickCount (b : Byte) (s : State) : (s.setDest b).tickCount = s.tickCount := rfl
@[simp] theorem State.setDest_byteCount (b : Byte) (s : State) : (s.setDest b).byteCount = s.byteCount := rfl
@[simp] theorem State.setDest_framesSeen (b : Byte) (s : State) : (s.setDest b).framesSeen = s.framesSeen := rfl
@[simp] theorem State.setDest_framesProcessed (b : Byte) (s : State) : (s.setDest b).framesProcessed = s.framesProcessed := rfl
@[simp] theorem State.setDest_cfgIn (b : Byte) (s : State) : (s.setDest b).cfgIn = s.cfgIn := rfl
@[simp] theorem State.setDest_input (b : Byte) (s : State) : (s.setDest b).input = s.input := rfl
@[simp] theorem State.setDest_output (b : Byte) (s : State) : (s.setDest b).output = s.output := rfl

@[simp] theorem State.setTyp_cfg (b : Byte) (s : State) : (s.setTyp b).cfg = s.cfg := rfl
@[simp] theorem State.setTyp_ps (b : Byte) (s : State) : (s.setTyp b).ps = s.ps := rfl
@[simp] theorem State.setTyp_dest (b : Byte) (s : State) : (s.setTyp b).dest = s.dest := rfl
@[simp] theorem State.setTyp_typ (b : Byte) (s : State) : (s.setTyp b).typ = b := rfl
@[simp] theorem State.setTyp_buf (b : Byte) (s : State) : (s.setTyp b).buf = s.buf := rfl
@[simp] theorem State.setTyp_len (b : Byte) (s : State) : (s.setTyp b).len = s.len := rfl
@[simp] theorem State.setTyp_tickCount (b : Byte) (s : State) : (s.setTyp b).tickCount = s.tickCount := rfl
@[simp] theorem State.setTyp_byteCount (b : Byte) (s : State) : (s.setTyp b).byteCount = s.byteCount := rfl
@[simp] theorem State.setTyp_framesSeen (b : Byte) (s : State) : (s.setTyp b).framesSeen = s.framesSeen := rfl
@[simp] theorem State.setTyp_framesProcessed (b : Byte) (s : State) : (s.setTyp b).framesProcessed = s.framesProcessed := rfl
@[simp] theorem State.setTyp_cfgIn (b : Byte) (s : State) : (s.setTyp b).cfgIn = s.cfgIn := rfl
@[simp] theorem State.setTyp_input (b : Byte) (s : State) : (s.setTyp b).input = s.input := rfl
@[simp] theorem State.setTyp_output (b : Byte) (s : State) : (s.setTyp b).output = s.output := rfl

@[simp] theorem State.storeByte_cfg (b : Byte) (s : State) : (s.storeByte b).cfg = s.cfg := rfl
@[simp] theorem State.storeByte_ps (b : Byte) (s : State) : (s.storeByte b).ps = s.ps := rfl
@[simp] theorem State.storeByte_dest (b : Byte) (s : State) : (s.storeByte b).dest = s.dest := rfl
@[simp] theorem State.storeByte_typ (b : Byte) (s : State) : (s.storeByte b).typ = s.typ := rfl
@[simp] theorem State.storeByte_buf (b : Byte) (s : State) : (s.storeByte b).buf = s.buf.write s.len b := rfl
@[simp] theorem State.storeByte_len (b : Byte) (s : State) : (s.storeByte b).len = s.len + 1 := rfl
@[simp] theorem State.storeByte_tickCount (b : Byte) (s : State) : (s.storeByte b).tickCount = s.tickCount := rfl
@[simp] theorem State.storeByte_byteCount (b : Byte) (s : State) : (s.storeByte b).byteCount = s.byteCount := rfl
@[simp] theorem State.storeByte_framesSeen (b : Byte) (s : State) : (s.storeByte b).framesSeen = s.framesSeen := rfl
@[simp] theorem State.storeByte_framesProcessed (b : Byte) (s : State) : (s.storeByte b).framesProcessed = s.framesProcessed := rfl
@[simp] theorem State.storeByte_cfgIn (b : Byte) (s : State) : (s.storeByte b).cfgIn = s.cfgIn := rfl
@[simp] theorem State.storeByte_input (b : Byte) (s : State) : (s.storeByte b).input = s.input := rfl
@[simp] theorem State.storeByte_output (b : Byte) (s : State) : (s.storeByte b).output = s.output := rfl

@[simp] theorem State.incTickCount_cfg (s : State) : (s.incTickCount).cfg = s.cfg := rfl
@[simp] theorem State.incTickCount_ps (s : State) : (s.incTickCount).ps = s.ps := rfl
@[simp] theorem State.incTickCount_dest (s : State) : (s.incTickCount).dest = s.dest := rfl
@[simp] theorem State.incTickCount_typ (s : State) : (s.incTickCount).typ = s.typ := rfl
@[simp] theorem State.incTickCount_buf (s : State) : (s.incTickCount).buf = s.buf := rfl
@[simp] theorem State.incTickCount_len (s : State) : (s.incTickCount).len = s.len := rfl
@[simp] theorem State.incTickCount_tickCount (s : State) : (s.incTickCount).tickCount = inc s.cfg.cntW s.tickCount := rfl
@[simp] theorem State.incTickCount_byteCount (s : State) : (s.incTickCount).byteCount = s.byteCount := rfl
@[simp] theorem State.incTickCount_framesSeen (s : State) : (s.incTickCount).framesSeen = s.framesSeen := rfl
@[simp] theorem State.incTickCount_framesProcessed (s : State) : (s.incTickCount).framesProcessed = s.framesProcessed := rfl
@[simp] theorem State.incTickCount_cfgIn (s : State) : (s.incTickCount).cfgIn = s.cfgIn := rfl
@[simp] theorem State.incTickCount_input (s : State) : (s.incTickCount).input = s.input := rfl
@[simp] theorem State.incTickCount_output (s : State) : (s.incTickCount).output = s.output := rfl

@[simp] theorem State.incByteCount_cfg (s : State) : (s.incByteCount).cfg = s.cfg := rfl
@[simp] theorem State.incByteCount_ps (s : State) : (s.incByteCount).ps = s.ps := rfl
@[simp] theorem State.incByteCount_dest (s : State) : (s.incByteCount).dest = s.dest := rfl
@[simp] theorem State.incByteCount_typ (s : State) : (s.incByteCount).typ = s.typ := rfl
@[simp] theorem State.incByteCount_buf (s : State) : (s.incByteCount).buf = s.buf := rfl
@[simp] theorem State.incByteCount_len (s : State) : (s.incByteCount).len = s.len := rfl
@[simp] theorem State.incByteCount_tickCount (s : State) : (s.incByteCount).tickCount = s.tickCount := rfl
@[simp] theorem State.incByteCount_byteCount (s : State) : (s.incByteCount).byteCount = inc s.cfg.cntW s.byteCount := rfl
@[simp] theorem State.incByteCount_framesSeen (s : State) : (s.incByteCount).framesSeen = s.framesSeen := rfl
@[simp] theorem State.incByteCount_framesProcessed (s : State) : (s.incByteCount).framesProcessed = s.framesProcessed := rfl
@[simp] theorem State.incByteCount_cfgIn (s : State) : (s.incByteCount).cfgIn = s.cfgIn := rfl
@[simp] theorem State.incByteCount_input (s : State) : (s.incByteCount).input = s.input := rfl
@[simp] theorem State.incByteCount_output (s : State) : (s.incByteCount).output = s.output := rfl

@[simp] theorem State.incFramesSeen_cfg (s : State) : (s.incFramesSeen).cfg = s.cfg := rfl
@[simp] theorem State.incFramesSeen_ps (s : State) : (s.incFramesSeen).ps = s.ps := rfl
@[simp] theorem State.incFramesSeen_dest (s : State) : (s.incFramesSeen).dest = s.dest := rfl
@[simp] theorem State.incFramesSeen_typ (s : State) : (s.incFramesSeen).typ = s.typ := rfl
@[simp] theorem State.incFramesSeen_buf (s : State) : (s.incFramesSeen).buf = s.buf := rfl
@[simp] theorem State.incFramesSeen_len (s : State) : (s.incFramesSeen).len = s.len := rfl
@[simp] theorem State.incFramesSeen_tickCount (s : State) : (s.incFramesSeen).tickCount = s.tickCount := rfl
@[simp] theorem State.incFramesSeen_byteCount (s : State) : (s.incFramesSeen).byteCount = s.byteCount := rfl
@[simp] theorem State.incFramesSeen_framesSeen (s : State) : (s.incFramesSeen).framesSeen = inc s.cfg.cntW s.framesSeen := rfl
@[simp] theorem State.incFramesSeen_framesProcessed (s : State) : (s.incFramesSeen).framesProcessed = s.framesProcessed := rfl
@[simp] theorem State.incFramesSeen_cfgIn (s : State) : (s.incFramesSeen).cfgIn = s.cfgIn := rfl
@[simp] theorem State.incFramesSeen_input (s : State) : (s.incFramesSeen).input = s.input := rfl
@[simp] theorem State.incFramesSeen_output (s : State) : (s.incFramesSeen).output = s.output := rfl

@[simp] theorem State.incFramesProcessed_cfg (s : State) : (s.incFramesProcessed).cfg = s.cfg := rfl
@[simp] theorem State.incFramesProcessed_ps (s : State) : (s.incFramesProcessed).ps = s.ps := rfl
@[simp] theorem State.incFramesProcessed_dest (s : State) : (s.incFramesProcessed).dest = s.dest := rfl
@[simp] theorem State.incFramesProcessed_typ (s : State) : (s.incFramesProcessed).typ = s.typ := rfl
@[simp] theorem State.incFramesProcessed_buf (s : State) : (s.incFramesProcessed).buf = s.buf := rfl
@[simp] theorem State.incFramesProcessed_len (s : State) : (s.incFramesProcessed).len = s.len := rfl
@[simp] theorem State.incFramesProcessed_tickCount (s : State) : (s.incFramesProcessed).tickCount = s.tickCount := rfl
@[simp] theorem State.incFramesProcessed_byteCount (s : State) : (s.incFramesProcessed).byteCount = s.byteCount := rfl
@[simp] theorem State.incFramesProcessed_framesSeen (s : State) : (s.incFramesProcessed).framesSeen = s.framesSeen := rfl
@[simp] theorem State.incFramesProcessed_framesProcessed (s : State) : (s.incFramesProcessed).framesProcessed = inc s.cfg.cntW s.framesProcessed := rfl
@[simp] theorem State.incFramesProcessed_cfgIn (s : State) : (s.incFramesProcessed).cfgIn = s.cfgIn := rfl
@[simp] theorem State.incFramesProcessed_input (s : State) : (s.incFramesProcessed).input = s.input := rfl
@[simp] theorem State.incFramesProcessed_output (s : State) : (s.incFramesProcessed).output = s.output := rfl

@[simp] theorem State.emit_cfg (f : Frame) (s : State) : (s.emit f).cfg = s.cfg := rfl
@[simp] theorem State.emit_ps (f : Frame) (s : State) : (s.emit f).ps = s.ps := rfl
@[simp] theorem State.emit_dest (f : Frame) (s : State) : (s.emit f).dest = s.dest := rfl
@[simp] theorem State.emit_typ (f : Frame) (s : State) : (s.emit f).typ = s.typ := rfl
@[simp] theorem State.emit_buf (f : Frame) (s : State) : (s.emit f).buf = s.buf := rfl
@[simp] theorem State.emit_len (f : Frame) (s : State) : (s.emit f).len = s.len := rfl
@[simp] theorem State.emit_tickCount (f : Frame) (s : State) : (s.emit f).tickCount = s.tickCount := rfl
@[simp] theorem State.emit_byteCount (f : Frame) (s : State) : (s.emit f).byteCount = s.byteCount := rfl
@[simp] theorem State.emit_framesSeen (f : Frame) (s : State) : (s.emit f).framesSeen = s.framesSeen := rfl
@[simp] theorem State.emit_framesProcessed (f : Frame) (s : State) : (s.emit f).framesProcessed = s.framesProcessed := rfl
@[simp] theorem State.emit_cfgIn (f : Frame) (s : State) : (s.emit f).cfgIn = s.cfgIn := rfl
@[simp] theorem State.emit_input (f : Frame) (s : State) : (s.emit f).input = s.input := rfl
@[simp] theorem State.emit_output (f : Frame) (s : State) : (s.emit f).output = s.output ++ [f] := rfl

@[simp] theorem State.setInput_cfg (es : List Event) (s : State) : (s.setInput es).cfg = s.cfg := rfl
@[simp] theorem State.setInput_ps (es : List Event) (s : State) : (s.setInput es).ps = s.ps := rfl
@[simp] theorem State.setInput_dest (es : List Event) (s : State) : (s.setInput es).dest = s.dest := rfl
@[simp] theorem State.setInput_typ (es : List Event) (s : State) : (s.setInput es).typ = s.typ := rfl
@[simp] theorem State.setInput_buf (es : List Event) (s : State) : (s.setInput es).buf = s.buf := rfl
@[simp] theorem State.setInput_len (es : List Event) (s : State) : (s.setInput es).len = s.len := rfl
@[simp] theorem State.setInput_tickCount (es : List Event) (s : State) : (s.setInput es).tickCount = s.tickCount := rfl
@[simp] theorem State.setInput_byteCount (es : List Event) (s : State) : (s.setInput es).byteCount = s.byteCount := rfl
@[simp] theorem State.setInput_framesSeen (es : List Event) (s : State) : (s.setInput es).framesSeen = s.framesSeen := rfl
@[simp] theorem State.setInput_framesProcessed (es : List Event) (s : State) : (s.setInput es).framesProcessed = s.framesProcessed := rfl
@[simp] theorem State.setInput_cfgIn (es : List Event) (s : State) : (s.setInput es).cfgIn = s.cfgIn := rfl
@[simp] theorem State.setInput_input (es : List Event) (s : State) : (s.setInput es).input = es := rfl
@[simp] theorem State.setInput_output (es : List Event) (s : State) : (s.setInput es).output = s.output := rfl

@[simp] theorem State.resetFrame_cfg (s : State) : (s.resetFrame).cfg = s.cfg := rfl
@[simp] theorem State.resetFrame_ps (s : State) : (s.resetFrame).ps = s.ps := rfl
@[simp] theorem State.resetFrame_dest (s : State) : (s.resetFrame).dest = 0x00 := rfl
@[simp] theorem State.resetFrame_typ (s : State) : (s.resetFrame).typ = 0x00 := rfl
@[simp] theorem State.resetFrame_buf (s : State) : (s.resetFrame).buf = [] := rfl
@[simp] theorem State.resetFrame_len (s : State) : (s.resetFrame).len = 0 := rfl
@[simp] theorem State.resetFrame_tickCount (s : State) : (s.resetFrame).tickCount = s.tickCount := rfl
@[simp] theorem State.resetFrame_byteCount (s : State) : (s.resetFrame).byteCount = s.byteCount := rfl
@[simp] theorem State.resetFrame_framesSeen (s : State) : (s.resetFrame).framesSeen = s.framesSeen := rfl
@[simp] theorem State.resetFrame_framesProcessed (s : State) : (s.resetFrame).framesProcessed = s.framesProcessed := rfl
@[simp] theorem State.resetFrame_cfgIn (s : State) : (s.resetFrame).cfgIn = s.cfgIn := rfl
@[simp] theorem State.resetFrame_input (s : State) : (s.resetFrame).input = s.input := rfl
@[simp] theorem State.resetFrame_output (s : State) : (s.resetFrame).output = s.output := rfl

@[simp] theorem State.abandon_cfg (s : State) : (s.abandon).cfg = s.cfg := rfl
@[simp] theorem State.abandon_ps (s : State) : (s.abandon).ps = .idle := rfl
@[simp] theorem State.abandon_dest (s : State) : (s.abandon).dest = 0x00 := rfl
@[simp] theorem State.abandon_typ (s : State) : (s.abandon).typ = 0x00 := rfl
@[simp] theorem State.abandon_buf (s : State) : (s.abandon).buf = [] := rfl
@[simp] theorem State.abandon_len (s : State) : (s.abandon).len = 0 := rfl
@[simp] theorem State.abandon_tickCount (s : State) : (s.abandon).tickCount = s.tickCount := rfl
@[simp] theorem State.abandon_byteCount (s : State) : (s.abandon).byteCount = s.byteCount := rfl
@[simp] theorem State.abandon_framesSeen (s : State) : (s.abandon).framesSeen = s.framesSeen := rfl
@[simp] theorem State.abandon_framesProcessed (s : State) : (s.abandon).framesProcessed = s.framesProcessed := rfl
@[simp] theorem State.abandon_cfgIn (s : State) : (s.abandon).cfgIn = s.cfgIn := rfl
@[simp] theorem State.abandon_input (s : State) : (s.abandon).input = s.input := rfl
@[simp] theorem State.abandon_output (s : State) : (s.abandon).output = s.output := rfl

@[simp] theorem State.construct_cfg (c : Config) (s : State) : (s.construct c).cfg = c := rfl
@[simp] theorem State.construct_ps (c : Config) (s : State) : (s.construct c).ps = .idle := rfl
@[simp] theorem State.construct_dest (c : Config) (s : State) : (s.construct c).dest = 0x00 := rfl
@[simp] theorem State.construct_typ (c : Config) (s : State) : (s.construct c).typ = 0x00 := rfl
@[simp] theorem State.construct_buf (c : Config) (s : State) : (s.construct c).buf = [] := rfl
@[simp] theorem State.construct_len (c : Config) (s : State) : (s.construct c).len = 0 := rfl
@[simp] theorem State.construct_tickCount (c : Config) (s : State) : (s.construct c).tickCount = 0 := rfl
@[simp] theorem State.construct_byteCount (c : Config) (s : State) : (s.construct c).byteCount = 0 := rfl
@[simp] theorem State.construct_framesSeen (c : Config) (s : State) : (s.construct c).framesSeen = 0 := rfl
@[simp] theorem State.construct_framesProcessed (c : Config) (s : State) : (s.construct c).framesProcessed = 0 := rfl
@[simp] theorem State.construct_cfgIn (c : Config) (s : State) : (s.construct c).cfgIn = s.cfgIn := rfl
@[simp] theorem State.construct_input (c : Config) (s : State) : (s.construct c).input = s.input := rfl
@[simp] theorem State.construct_output (c : Config) (s : State) : (s.construct c).output = s.output := rfl

end Sys2Proof.Machine
end

