-- ==== Sys2Proof/Laws/Ops.lean ====
section
/-!
SUPPORT. One lemma for each shared operation, saying everything it can do.
-/

namespace Sys2Proof.Machine

theorem classOf_eq_dataC {c : Config} {b : Byte} :
    classOf c b = .dataC ↔ b ≠ c.attn ∧ b ≠ c.stx ∧ b ≠ c.etx ∧ b ≠ c.esc := by
  unfold classOf
  split_ifs <;> simp_all

/-- Under a well-formed configuration the order of the tests does not matter (R61). -/
theorem classOf_constants {c : Config} (h : c.WellFormed) :
    classOf c c.attn = .attnC ∧ classOf c c.stx = .stxC ∧ classOf c c.etx = .etxC ∧
      classOf c c.esc = .escC := by
  obtain ⟨h₁, h₂, h₃, h₄, h₅, h₆, -⟩ := h
  simp [classOf, h₁.symm, h₂.symm, h₃.symm, h₄.symm, h₅.symm, h₆.symm]

theorem State.configured_eq_next {s t u : State} :
    s.configured t = .next u ↔ s.cfg.WellFormed ∧ t = u := by
  unfold State.configured
  split_ifs with h
  · exact ⟨fun e => ⟨h, (by injection e)⟩, fun e => (by rw [e.2])⟩
  · exact ⟨fun e => (by cases e), fun e => absurd e.1 h⟩

theorem State.cell_eq_next {s t u : State} {p : ParseState} {k : ByteClass} {b : Byte} :
    s.cell p k b t = .next u ↔
      s.ps = p ∧ classOf s.cfg b = k ∧ s.cfg.WellFormed ∧ t = u := by
  unfold State.cell
  split_ifs with h
  · rw [State.configured_eq_next, ← and_assoc, and_iff_right h]
  · exact ⟨fun e => (by cases e), fun e => absurd ⟨e.1, e.2.1⟩ h⟩

theorem State.cellUnder_eq_next {s t u : State} {q : Bool} {p : ParseState} {k : ByteClass}
    {b : Byte} : s.cellUnder q p k b t = .next u ↔
      s.cfg.strictEscape = q ∧ s.ps = p ∧ classOf s.cfg b = k ∧ s.cfg.WellFormed ∧ t = u := by
  unfold State.cellUnder
  split_ifs with h
  · rw [State.cell_eq_next, and_iff_right h]
  · exact ⟨fun e => (by cases e), fun e => absurd e.1 h⟩

/-- The selected cell of a well-formed configuration takes its effect. -/
theorem State.cell_selected {s t : State} {p : ParseState} {k : ByteClass} {b : Byte}
    (hw : s.cfg.WellFormed) (hp : s.ps = p) (hk : classOf s.cfg b = k) :
    s.cell p k b t = .next t := State.cell_eq_next.mpr ⟨hp, hk, hw, rfl⟩

/-- R90 and R101, both arms. -/
theorem State.appendOrAbandon_eq (b : Byte) (s : State) :
    s.appendOrAbandon b =
      if s.len < s.cfg.maxLen then (s.storeByte b).setPs .inPayload else s.abandon := by
  unfold State.appendOrAbandon State.append
  split_ifs <;> rfl

theorem accept_iff {c : Config} {d : Byte} : accept c d = true ↔ d = c.bcast ∨ d = c.nodeId := by
  simp [accept]

/-- Frame-complete, field by field (R89). -/
theorem State.frameComplete_eq (s : State) :
    s.frameComplete =
      { s with
        ps := .idle, dest := 0x00, typ := 0x00, buf := [], len := 0
        framesSeen := inc s.cfg.cntW s.framesSeen
        framesProcessed :=
          if accept s.cfg s.dest then inc s.cfg.cntW s.framesProcessed else s.framesProcessed
        output := if accept s.cfg s.dest then s.output ++ [s.completedFrame] else s.output } := by
  unfold State.frameComplete
  cases accept s.cfg s.dest <;> rfl

/-- Everything the FSM can do with a byte, as one of nine effects with the
condition each is taken under (R80 to R90, R100 to R102). -/
theorem State.fsmByte_cases (b : Byte) (s : State) :
    (s.ps = .idle ∧ b ≠ s.cfg.attn ∧ s.fsmByte b = s) ∨
    (s.ps = .idle ∧ b = s.cfg.attn ∧ s.fsmByte b = s.setPs .sawAttention) ∨
    (s.ps = .sawAttention ∧ b = s.cfg.attn ∧ s.fsmByte b = s.setPs .sawStart) ∨
    (s.ps = .sawStart ∧ b = s.cfg.stx ∧
      s.fsmByte b = s.resetFrame.setPs .expectDestination) ∨
    (s.ps = .expectDestination ∧ s.fsmByte b = (s.setDest b).setPs .expectType) ∨
    (s.ps = .expectType ∧ s.fsmByte b = (s.setTyp b).setPs .inPayload) ∨
    (s.ps = .inPayload ∧ b = s.cfg.etx ∧ s.fsmByte b = s.frameComplete) ∨
    (s.ps = .inPayload ∧ b ≠ s.cfg.etx ∧ b = s.cfg.esc ∧ s.fsmByte b = s.setPs .escapeNext) ∨
    (((s.ps = .inPayload ∧ b ≠ s.cfg.etx ∧ b ≠ s.cfg.esc) ∨
        (s.ps = .escapeNext ∧ ¬ (s.cfg.strictEscape = true ∧ classOf s.cfg b = .dataC))) ∧
      s.len < s.cfg.maxLen ∧ s.fsmByte b = (s.storeByte b).setPs .inPayload) ∨
    (((s.ps = .sawAttention ∧ b ≠ s.cfg.attn) ∨ (s.ps = .sawStart ∧ b ≠ s.cfg.stx) ∨
        (s.ps = .escapeNext ∧ s.cfg.strictEscape = true ∧ classOf s.cfg b = .dataC) ∨
        (s.ps = .inPayload ∧ b ≠ s.cfg.etx ∧ b ≠ s.cfg.esc ∧ s.cfg.maxLen ≤ s.len) ∨
        (s.ps = .escapeNext ∧ s.cfg.maxLen ≤ s.len)) ∧
      s.fsmByte b = s.abandon) := by
  obtain ⟨cfg, ps, dest, typ, buf, len, tc, bc, fs, fp, ci, inp, out⟩ := s
  cases ps <;>
    simp only [State.fsmByte, State.payloadByte, State.escapedByte, State.appendOrAbandon_eq,
      State.rejectEscaped, State.firstAttention, State.secondAttention, State.startByte,
      State.recordDest, State.recordTyp, State.escapePrefix, reduceCtorEq, true_and, false_and,
      false_or, or_false, State.stayIdle, State.setPs] <;>
    split_ifs <;> simp_all

/-- The FSM does not read `byte_count`, so the order of the two lines of R133 is
unobservable. -/
theorem State.fsmByte_incByteCount (b : Byte) (s : State) :
    s.incByteCount.fsmByte b = (s.fsmByte b).incByteCount := by
  obtain ⟨cfg, ps, dest, typ, buf, len, tc, bc, fs, fp, ci, inp, out⟩ := s
  cases ps <;>
    simp only [State.fsmByte, State.payloadByte, State.escapedByte, State.appendOrAbandon_eq,
      State.frameComplete_eq, apply_ite State.incByteCount] <;>
    rfl

/-- No byte changes the configuration (R27), the one supplied for the next `RESET`,
or the events still to be delivered. -/
theorem State.fsmByte_constants (b : Byte) (s : State) :
    (s.fsmByte b).cfg = s.cfg ∧ (s.fsmByte b).cfgIn = s.cfgIn ∧ (s.fsmByte b).input = s.input := by
  rcases s.fsmByte_cases b with ⟨-, -, e⟩ | ⟨-, -, e⟩ | ⟨-, -, e⟩ | ⟨-, -, e⟩ | ⟨-, e⟩ | ⟨-, e⟩ |
    ⟨-, -, e⟩ | ⟨-, -, -, e⟩ | ⟨-, -, e⟩ | ⟨-, e⟩ <;> rw [e] <;> simp [State.frameComplete_eq]

@[simp] theorem State.fsmByte_cfg (b : Byte) (s : State) : (s.fsmByte b).cfg = s.cfg :=
  (s.fsmByte_constants b).1
@[simp] theorem State.fsmByte_cfgIn (b : Byte) (s : State) : (s.fsmByte b).cfgIn = s.cfgIn :=
  (s.fsmByte_constants b).2.1
@[simp] theorem State.fsmByte_input (b : Byte) (s : State) : (s.fsmByte b).input = s.input :=
  (s.fsmByte_constants b).2.2

/-- The FSM does not read the events still to be delivered. -/
theorem State.fsmByte_setInput (b : Byte) (es : List Event) (s : State) :
    (s.setInput es).fsmByte b = (s.fsmByte b).setInput es := by
  obtain ⟨cfg, ps, dest, typ, buf, len, tc, bc, fs, fp, ci, inp, out⟩ := s
  cases ps <;>
    simp only [State.fsmByte, State.payloadByte, State.escapedByte, State.appendOrAbandon_eq,
      State.frameComplete_eq, apply_ite (State.setInput es)] <;>
    rfl

theorem execByte_eq_next {s t : State} {b : Byte} :
    execByte b s = .next t ↔ s.cfg.WellFormed ∧ t = s.incByteCount.fsmByte b := by
  unfold execByte
  rw [State.configured_eq_next]
  exact and_congr_right fun _ => eq_comm

/-- Reading after storing: the new cell at index `len`, every other as before. -/
theorem State.bufRead_storeByte_of_lt (b : Byte) (s : State) {i : Nat} (h : i < s.len) :
    (s.storeByte b).bufRead i = s.bufRead i := by
  simp [State.bufRead, Memory.read?_write_of_ne _ _ h.ne]

theorem State.bufRead_storeByte_len (b : Byte) (s : State) :
    (s.storeByte b).bufRead s.len = b := by
  simp [State.bufRead, Memory.read?_write_self]

/-- Storing a byte puts it at the end of the payload (R42). -/
theorem State.payload_storeByte (b : Byte) (s : State) :
    (s.storeByte b).payload = s.payload ++ [b] := by
  unfold State.payload
  rw [State.storeByte_len, List.range_succ, List.map_append]
  simp only [List.map_cons, List.map_nil, State.bufRead_storeByte_len]
  congr 1
  exact List.map_congr_left fun i hi => State.bufRead_storeByte_of_lt b s (List.mem_range.mp hi)

end Sys2Proof.Machine
end

