-- ==== Sys2Proof/Laws/Cells.lean ====
section
/-!
SUPPORT. One lemma per cell row: which cell it is and what its effect is, so that
no proof unfolds `exec`.
-/

namespace Sys2Proof.Machine

@[simp] theorem exec_idleAttn (b : Byte) (s : State) :
    exec (.idleAttn b) s = s.cell .idle .attnC b (s.firstAttention) := rfl

@[simp] theorem exec_idleStx (b : Byte) (s : State) :
    exec (.idleStx b) s = s.cell .idle .stxC b (s.stayIdle) := rfl

@[simp] theorem exec_idleEtx (b : Byte) (s : State) :
    exec (.idleEtx b) s = s.cell .idle .etxC b (s.stayIdle) := rfl

@[simp] theorem exec_idleEsc (b : Byte) (s : State) :
    exec (.idleEsc b) s = s.cell .idle .escC b (s.stayIdle) := rfl

@[simp] theorem exec_idleData (b : Byte) (s : State) :
    exec (.idleData b) s = s.cell .idle .dataC b (s.stayIdle) := rfl

@[simp] theorem exec_sawAttentionAttn (b : Byte) (s : State) :
    exec (.sawAttentionAttn b) s = s.cell .sawAttention .attnC b (s.secondAttention) := rfl

@[simp] theorem exec_sawAttentionStx (b : Byte) (s : State) :
    exec (.sawAttentionStx b) s = s.cell .sawAttention .stxC b (s.abandon) := rfl

@[simp] theorem exec_sawAttentionEtx (b : Byte) (s : State) :
    exec (.sawAttentionEtx b) s = s.cell .sawAttention .etxC b (s.abandon) := rfl

@[simp] theorem exec_sawAttentionEsc (b : Byte) (s : State) :
    exec (.sawAttentionEsc b) s = s.cell .sawAttention .escC b (s.abandon) := rfl

@[simp] theorem exec_sawAttentionData (b : Byte) (s : State) :
    exec (.sawAttentionData b) s = s.cell .sawAttention .dataC b (s.abandon) := rfl

@[simp] theorem exec_sawStartAttn (b : Byte) (s : State) :
    exec (.sawStartAttn b) s = s.cell .sawStart .attnC b (s.abandon) := rfl

@[simp] theorem exec_sawStartStx (b : Byte) (s : State) :
    exec (.sawStartStx b) s = s.cell .sawStart .stxC b (s.startByte) := rfl

@[simp] theorem exec_sawStartEtx (b : Byte) (s : State) :
    exec (.sawStartEtx b) s = s.cell .sawStart .etxC b (s.abandon) := rfl

@[simp] theorem exec_sawStartEsc (b : Byte) (s : State) :
    exec (.sawStartEsc b) s = s.cell .sawStart .escC b (s.abandon) := rfl

@[simp] theorem exec_sawStartData (b : Byte) (s : State) :
    exec (.sawStartData b) s = s.cell .sawStart .dataC b (s.abandon) := rfl

@[simp] theorem exec_expectDestinationAttn (b : Byte) (s : State) :
    exec (.expectDestinationAttn b) s = s.cell .expectDestination .attnC b (s.recordDest b) := rfl

@[simp] theorem exec_expectDestinationStx (b : Byte) (s : State) :
    exec (.expectDestinationStx b) s = s.cell .expectDestination .stxC b (s.recordDest b) := rfl

@[simp] theorem exec_expectDestinationEtx (b : Byte) (s : State) :
    exec (.expectDestinationEtx b) s = s.cell .expectDestination .etxC b (s.recordDest b) := rfl

@[simp] theorem exec_expectDestinationEsc (b : Byte) (s : State) :
    exec (.expectDestinationEsc b) s = s.cell .expectDestination .escC b (s.recordDest b) := rfl

@[simp] theorem exec_expectDestinationData (b : Byte) (s : State) :
    exec (.expectDestinationData b) s = s.cell .expectDestination .dataC b (s.recordDest b) := rfl

@[simp] theorem exec_expectTypeAttn (b : Byte) (s : State) :
    exec (.expectTypeAttn b) s = s.cell .expectType .attnC b (s.recordTyp b) := rfl

@[simp] theorem exec_expectTypeStx (b : Byte) (s : State) :
    exec (.expectTypeStx b) s = s.cell .expectType .stxC b (s.recordTyp b) := rfl

@[simp] theorem exec_expectTypeEtx (b : Byte) (s : State) :
    exec (.expectTypeEtx b) s = s.cell .expectType .etxC b (s.recordTyp b) := rfl

@[simp] theorem exec_expectTypeEsc (b : Byte) (s : State) :
    exec (.expectTypeEsc b) s = s.cell .expectType .escC b (s.recordTyp b) := rfl

@[simp] theorem exec_expectTypeData (b : Byte) (s : State) :
    exec (.expectTypeData b) s = s.cell .expectType .dataC b (s.recordTyp b) := rfl

@[simp] theorem exec_inPayloadAttn (b : Byte) (s : State) :
    exec (.inPayloadAttn b) s = s.cell .inPayload .attnC b (s.payloadByte b) := rfl

@[simp] theorem exec_inPayloadStx (b : Byte) (s : State) :
    exec (.inPayloadStx b) s = s.cell .inPayload .stxC b (s.payloadByte b) := rfl

@[simp] theorem exec_inPayloadEtx (b : Byte) (s : State) :
    exec (.inPayloadEtx b) s = s.cell .inPayload .etxC b (s.frameComplete) := rfl

@[simp] theorem exec_inPayloadEsc (b : Byte) (s : State) :
    exec (.inPayloadEsc b) s = s.cell .inPayload .escC b (s.escapePrefix) := rfl

@[simp] theorem exec_inPayloadData (b : Byte) (s : State) :
    exec (.inPayloadData b) s = s.cell .inPayload .dataC b (s.payloadByte b) := rfl

@[simp] theorem exec_escapeNextAttn (b : Byte) (s : State) :
    exec (.escapeNextAttn b) s = s.cell .escapeNext .attnC b (s.escapedByte b) := rfl

@[simp] theorem exec_escapeNextStx (b : Byte) (s : State) :
    exec (.escapeNextStx b) s = s.cell .escapeNext .stxC b (s.escapedByte b) := rfl

@[simp] theorem exec_escapeNextEtx (b : Byte) (s : State) :
    exec (.escapeNextEtx b) s = s.cell .escapeNext .etxC b (s.escapedByte b) := rfl

@[simp] theorem exec_escapeNextEsc (b : Byte) (s : State) :
    exec (.escapeNextEsc b) s = s.cell .escapeNext .escC b (s.escapedByte b) := rfl

@[simp] theorem exec_escapeNextDataLiberal (b : Byte) (s : State) :
    exec (.escapeNextDataLiberal b) s = s.cellUnder false .escapeNext .dataC b (s.escapedByte b) := rfl

@[simp] theorem exec_escapeNextDataStrict (b : Byte) (s : State) :
    exec (.escapeNextDataStrict b) s = s.cellUnder true .escapeNext .dataC b (s.rejectEscaped) := rfl

theorem exec_byte (b : Byte) (s : State) :
    exec (.byte b) s = s.configured (s.incByteCount.fsmByte b) := rfl

theorem exec_tick (s : State) : exec .tick s = s.configured s.incTickCount := rfl

theorem exec_readAnomaly (s : State) : exec .readAnomaly s = s.configured s := rfl

theorem exec_reset (s : State) :
    exec .reset s =
      if s.cfgIn.WellFormed then .next (s.construct s.cfgIn) else .refused .illFormedConfig := rfl

/-- The opcode map gives a cell row exactly in the row's own parse state, class and
policy (R69, R70), whatever the configuration. -/
theorem eq_cellOf_iff {i : Instr} {p : ParseState} {k : ByteClass} {b : Byte}
    (h : i.cell? = some (p, k, b)) (c : Config) (q : ParseState) :
    i = cellOf c q b ↔
      q = p ∧ classOf c b = k ∧ ∀ x, i.policy? = some x → c.strictEscape = x := by
  cases i <;>
    simp only [Instr.cell?, reduceCtorEq, Option.some.injEq, Prod.mk.injEq] at h <;>
    obtain ⟨rfl, rfl, rfl⟩ := h <;>
    cases q <;> simp only [cellOf, Instr.policy?, reduceCtorEq, false_and, true_and] <;>
    generalize classOf c _ = k <;> cases k <;> cases c.strictEscape <;> simp

end Sys2Proof.Machine
end

