-- ==== Sys2Proof/Laws/PerInstr.lean ====
section
/-!
SUPPORT. Statements for all instructions, made per instruction.
-/

namespace Sys2Proof.Laws

theorem classOf_of_wellFormed {c : Config} {i : Instr} {p : ParseState} {k : ByteClass} {b : Byte}
    (h : i.WellFormed c) (hi : i.cell? = some (p, k, b)) : classOf c b = k := by
  have := h.1
  rw [hi] at this
  simpa using this

theorem policy_of_wellFormed {c : Config} {i : Instr} {q : Bool}
    (h : i.WellFormed c) (hi : i.policy? = some q) : c.strictEscape = q := by
  have := h.2
  rw [hi] at this
  simpa using this

/-- The opcode map (spec/30_encoding.md R69) is inverse to the rows' own selection
conditions: under its configuration, a well-formed cell is the one that its
parse state and its byte select.  An event row is no cell. -/
def OpcodeMap.Statement (i : Instr) : Prop :=
  ∀ c : Config, i.WellFormed c →
    match i.cell? with
    | some (p, _, b) => cellOf c p b = i
    | none => ∃ e, decodeEvent e = i

theorem OpcodeMap.idleAttn (b : Byte) : OpcodeMap.Statement (.idleAttn b) := by
  intro c h
  simp [Instr.cell?, cellOf, classOf_of_wellFormed h rfl]

theorem OpcodeMap.idleStx (b : Byte) : OpcodeMap.Statement (.idleStx b) := by
  intro c h
  simp [Instr.cell?, cellOf, classOf_of_wellFormed h rfl]

theorem OpcodeMap.idleEtx (b : Byte) : OpcodeMap.Statement (.idleEtx b) := by
  intro c h
  simp [Instr.cell?, cellOf, classOf_of_wellFormed h rfl]

theorem OpcodeMap.idleEsc (b : Byte) : OpcodeMap.Statement (.idleEsc b) := by
  intro c h
  simp [Instr.cell?, cellOf, classOf_of_wellFormed h rfl]

theorem OpcodeMap.idleData (b : Byte) : OpcodeMap.Statement (.idleData b) := by
  intro c h
  simp [Instr.cell?, cellOf, classOf_of_wellFormed h rfl]

theorem OpcodeMap.sawAttentionAttn (b : Byte) : OpcodeMap.Statement (.sawAttentionAttn b) := by
  intro c h
  simp [Instr.cell?, cellOf, classOf_of_wellFormed h rfl]

theorem OpcodeMap.sawAttentionStx (b : Byte) : OpcodeMap.Statement (.sawAttentionStx b) := by
  intro c h
  simp [Instr.cell?, cellOf, classOf_of_wellFormed h rfl]

theorem OpcodeMap.sawAttentionEtx (b : Byte) : OpcodeMap.Statement (.sawAttentionEtx b) := by
  intro c h
  simp [Instr.cell?, cellOf, classOf_of_wellFormed h rfl]

theorem OpcodeMap.sawAttentionEsc (b : Byte) : OpcodeMap.Statement (.sawAttentionEsc b) := by
  intro c h
  simp [Instr.cell?, cellOf, classOf_of_wellFormed h rfl]

theorem OpcodeMap.sawAttentionData (b : Byte) : OpcodeMap.Statement (.sawAttentionData b) := by
  intro c h
  simp [Instr.cell?, cellOf, classOf_of_wellFormed h rfl]

theorem OpcodeMap.sawStartAttn (b : Byte) : OpcodeMap.Statement (.sawStartAttn b) := by
  intro c h
  simp [Instr.cell?, cellOf, classOf_of_wellFormed h rfl]

theorem OpcodeMap.sawStartStx (b : Byte) : OpcodeMap.Statement (.sawStartStx b) := by
  intro c h
  simp [Instr.cell?, cellOf, classOf_of_wellFormed h rfl]

theorem OpcodeMap.sawStartEtx (b : Byte) : OpcodeMap.Statement (.sawStartEtx b) := by
  intro c h
  simp [Instr.cell?, cellOf, classOf_of_wellFormed h rfl]

theorem OpcodeMap.sawStartEsc (b : Byte) : OpcodeMap.Statement (.sawStartEsc b) := by
  intro c h
  simp [Instr.cell?, cellOf, classOf_of_wellFormed h rfl]

theorem OpcodeMap.sawStartData (b : Byte) : OpcodeMap.Statement (.sawStartData b) := by
  intro c h
  simp [Instr.cell?, cellOf, classOf_of_wellFormed h rfl]

theorem OpcodeMap.expectDestinationAttn (b : Byte) : OpcodeMap.Statement (.expectDestinationAttn b) := by
  intro c h
  simp [Instr.cell?, cellOf, classOf_of_wellFormed h rfl]

theorem OpcodeMap.expectDestinationStx (b : Byte) : OpcodeMap.Statement (.expectDestinationStx b) := by
  intro c h
  simp [Instr.cell?, cellOf, classOf_of_wellFormed h rfl]

theorem OpcodeMap.expectDestinationEtx (b : Byte) : OpcodeMap.Statement (.expectDestinationEtx b) := by
  intro c h
  simp [Instr.cell?, cellOf, classOf_of_wellFormed h rfl]

theorem OpcodeMap.expectDestinationEsc (b : Byte) : OpcodeMap.Statement (.expectDestinationEsc b) := by
  intro c h
  simp [Instr.cell?, cellOf, classOf_of_wellFormed h rfl]

theorem OpcodeMap.expectDestinationData (b : Byte) : OpcodeMap.Statement (.expectDestinationData b) := by
  intro c h
  simp [Instr.cell?, cellOf, classOf_of_wellFormed h rfl]

theorem OpcodeMap.expectTypeAttn (b : Byte) : OpcodeMap.Statement (.expectTypeAttn b) := by
  intro c h
  simp [Instr.cell?, cellOf, classOf_of_wellFormed h rfl]

theorem OpcodeMap.expectTypeStx (b : Byte) : OpcodeMap.Statement (.expectTypeStx b) := by
  intro c h
  simp [Instr.cell?, cellOf, classOf_of_wellFormed h rfl]

theorem OpcodeMap.expectTypeEtx (b : Byte) : OpcodeMap.Statement (.expectTypeEtx b) := by
  intro c h
  simp [Instr.cell?, cellOf, classOf_of_wellFormed h rfl]

theorem OpcodeMap.expectTypeEsc (b : Byte) : OpcodeMap.Statement (.expectTypeEsc b) := by
  intro c h
  simp [Instr.cell?, cellOf, classOf_of_wellFormed h rfl]

theorem OpcodeMap.expectTypeData (b : Byte) : OpcodeMap.Statement (.expectTypeData b) := by
  intro c h
  simp [Instr.cell?, cellOf, classOf_of_wellFormed h rfl]

theorem OpcodeMap.inPayloadAttn (b : Byte) : OpcodeMap.Statement (.inPayloadAttn b) := by
  intro c h
  simp [Instr.cell?, cellOf, classOf_of_wellFormed h rfl]

theorem OpcodeMap.inPayloadStx (b : Byte) : OpcodeMap.Statement (.inPayloadStx b) := by
  intro c h
  simp [Instr.cell?, cellOf, classOf_of_wellFormed h rfl]

theorem OpcodeMap.inPayloadEtx (b : Byte) : OpcodeMap.Statement (.inPayloadEtx b) := by
  intro c h
  simp [Instr.cell?, cellOf, classOf_of_wellFormed h rfl]

theorem OpcodeMap.inPayloadEsc (b : Byte) : OpcodeMap.Statement (.inPayloadEsc b) := by
  intro c h
  simp [Instr.cell?, cellOf, classOf_of_wellFormed h rfl]

theorem OpcodeMap.inPayloadData (b : Byte) : OpcodeMap.Statement (.inPayloadData b) := by
  intro c h
  simp [Instr.cell?, cellOf, classOf_of_wellFormed h rfl]

theorem OpcodeMap.escapeNextAttn (b : Byte) : OpcodeMap.Statement (.escapeNextAttn b) := by
  intro c h
  simp [Instr.cell?, cellOf, classOf_of_wellFormed h rfl]

theorem OpcodeMap.escapeNextStx (b : Byte) : OpcodeMap.Statement (.escapeNextStx b) := by
  intro c h
  simp [Instr.cell?, cellOf, classOf_of_wellFormed h rfl]

theorem OpcodeMap.escapeNextEtx (b : Byte) : OpcodeMap.Statement (.escapeNextEtx b) := by
  intro c h
  simp [Instr.cell?, cellOf, classOf_of_wellFormed h rfl]

theorem OpcodeMap.escapeNextEsc (b : Byte) : OpcodeMap.Statement (.escapeNextEsc b) := by
  intro c h
  simp [Instr.cell?, cellOf, classOf_of_wellFormed h rfl]

theorem OpcodeMap.escapeNextDataLiberal (b : Byte) : OpcodeMap.Statement (.escapeNextDataLiberal b) := by
  intro c h
  simp [Instr.cell?, cellOf, classOf_of_wellFormed h rfl, policy_of_wellFormed h rfl]

theorem OpcodeMap.escapeNextDataStrict (b : Byte) : OpcodeMap.Statement (.escapeNextDataStrict b) := by
  intro c h
  simp [Instr.cell?, cellOf, classOf_of_wellFormed h rfl, policy_of_wellFormed h rfl]

theorem OpcodeMap.byte (b : Byte) : OpcodeMap.Statement (.byte b) :=
  fun _ _ => ⟨.byte b, rfl⟩

theorem OpcodeMap.reset : OpcodeMap.Statement .reset := fun _ _ => ⟨.reset, rfl⟩

theorem OpcodeMap.tick : OpcodeMap.Statement .tick := fun _ _ => ⟨.tick, rfl⟩

theorem OpcodeMap.readAnomaly : OpcodeMap.Statement .readAnomaly := fun _ _ => ⟨.readAnomaly, rfl⟩

end Sys2Proof.Laws
end

