-- ==== Sys2Proof/Laws/Step.lean ====
section
/-!
SUPPORT. What a step can do: nothing while no event arrives, or the next event.
-/

namespace Sys2Proof.Machine

theorem step_of_input_cons {s : State} {e : Event} {rest : List Event} (h : s.input = e :: rest) :
    step s = exec (decodeEvent e) (s.setInput rest) := by
  unfold step State.fetch
  rw [h]

theorem step_of_input_nil {s : State} (h : s.input = []) : step s = .next s := by
  unfold step State.fetch
  rw [h]

/-- Every case of a step that answers a next state. -/
theorem step_cases {s t : State} (h : step s = .next t) :
    (s.input = [] ∧ t = s) ∨
    ∃ rest, (∃ b, s.input = .byte b :: rest ∧ s.cfg.WellFormed ∧
        t = (s.setInput rest).incByteCount.fsmByte b) ∨
      (s.input = .reset :: rest ∧ s.cfgIn.WellFormed ∧
        t = (s.setInput rest).construct s.cfgIn) ∨
      (s.input = .tick :: rest ∧ s.cfg.WellFormed ∧ t = (s.setInput rest).incTickCount) ∨
      (s.input = .readAnomaly :: rest ∧ s.cfg.WellFormed ∧ t = s.setInput rest) := by
  cases hi : s.input with
  | nil =>
    rw [step_of_input_nil hi] at h
    cases h
    exact .inl ⟨rfl, rfl⟩
  | cons e rest =>
    rw [step_of_input_cons hi] at h
    refine .inr ⟨rest, ?_⟩
    cases e with
    | byte b =>
      obtain ⟨hw, ht⟩ := execByte_eq_next.mp h
      exact .inl ⟨b, rfl, hw, ht⟩
    | reset =>
      change execReset (s.setInput rest) = .next t at h
      unfold execReset at h
      by_cases hw : (s.setInput rest).cfgIn.WellFormed
      · rw [if_pos hw] at h
        injection h with h
        exact .inr (.inl ⟨rfl, hw, h.symm⟩)
      · rw [if_neg hw] at h
        cases h
    | tick =>
      obtain ⟨hw, ht⟩ := State.configured_eq_next.mp h
      exact .inr (.inr (.inl ⟨rfl, hw, ht.symm⟩))
    | readAnomaly =>
      obtain ⟨hw, ht⟩ := State.configured_eq_next.mp h
      exact .inr (.inr (.inr ⟨rfl, hw, ht.symm⟩))

/-- The run of an event list starts with its first event. -/
theorem run_cons (n : Nat) {s t : State} (h : step s = .next t) :
    Sys2Proof.core.run (n + 1) s = Sys2Proof.core.run n t := by
  have h' : Sys2Proof.core.step s = .next t := h
  simp only [Host.Core.run, h']

/-- A byte event under a well-formed configuration. -/
theorem step_byte {s : State} {b : Byte} {rest : List Event} (hi : s.input = .byte b :: rest)
    (hw : s.cfg.WellFormed) : step s = .next ((s.setInput rest).incByteCount.fsmByte b) := by
  rw [step_of_input_cons hi]
  exact execByte_eq_next.mpr ⟨hw, rfl⟩

end Sys2Proof.Machine
end

