-- ==== Sys2Proof/Tests/Slice0.lean ====
section
/-!
SUPPORT. The model's own tests: ill-formed terms that the checks refuse, words
written out from spec/30_encoding.md, single steps with the results that the
rules' Examples and spec/95_test_vectors.md print, and for every obligation with
hypotheses a concrete state and operands that meet them (`witness_<name>`).
-/

namespace Sys2Proof.Tests

open Sys2Proof Sys2Proof.Machine

/-- The next state of an outcome, if it is one. -/
def nextOf : Result → Option State
  | .next s => some s
  | .fault _ => none
  | .refused _ => none

/-- The refusal of an outcome, if it is one. -/
def refusalOf : Result → Option Refusal
  | .refused r => some r
  | .next _ => none
  | .fault _ => none

theorem eq_next {r : Result} {s : State} (h : nextOf r = some s) : r = .next s := by
  cases r <;> simp_all [nextOf]

/-- Test configuration TC1S of spec/95_test_vectors.md. -/
def tc1s : Config := { bootConfig with strictEscape := true }

/-- The state `<p, d, t, payload>` of spec/95_test_vectors.md, section 0, counters 0. -/
def stOf (c : Config) (p : ParseState) (d t : Byte) (payload : List Byte) : State :=
  { State.resetWith c with
    ps := p, dest := d, typ := t
    buf := (List.range payload.length).zip payload, len := payload.length }

/-- `<p, -, -, []>` under TC1. -/
def blank (p : ParseState) : State := stOf bootConfig p 0x00 0x00 []

/-- `s` after one byte has been counted. -/
def counted (s : State) : State := { s with byteCount := 1 }

/-- `MAXLEN - 1` payload bytes, for this node. -/
def three : State := stOf bootConfig .inPayload 0x41 0x10 [0xA1, 0xA2, 0xA3]

/-- `MAXLEN` payload bytes, for this node. -/
def full : State := stOf bootConfig .inPayload 0x41 0x10 [0xA1, 0xA2, 0xA3, 0xA4]

/-- One payload byte, for this node. -/
def ours : State := stOf bootConfig .inPayload 0x41 0x10 [0xAA]

/-- One payload byte, for another node. -/
def foreign : State := stOf bootConfig .inPayload 0x42 0x10 [0xAA]

/-! ## Well-formedness -/

theorem test_bootConfig_wf : bootConfig.WellFormed := by decide
theorem test_tc1s_wf : tc1s.WellFormed := by decide
theorem test_attn_stx_equal : ¬ { bootConfig with stx := 0xFF }.WellFormed := by decide
theorem test_attn_etx_equal : ¬ { bootConfig with etx := 0xFF }.WellFormed := by decide
theorem test_attn_esc_equal : ¬ { bootConfig with esc := 0xFF }.WellFormed := by decide
theorem test_stx_etx_equal : ¬ { bootConfig with etx := 0x02 }.WellFormed := by decide
theorem test_stx_esc_equal : ¬ { bootConfig with esc := 0x02 }.WellFormed := by decide
theorem test_etx_esc_equal : ¬ { bootConfig with esc := 0x03 }.WellFormed := by decide
theorem test_maxLen_zero : ¬ { bootConfig with maxLen := 0 }.WellFormed := by decide
theorem test_cntW_zero : ¬ { bootConfig with cntW := 0 }.WellFormed := by decide
/-- R123: `NODE_ID = BCAST` is allowed. -/
theorem test_nodeId_bcast_wf : { bootConfig with nodeId := 0x00 }.WellFormed := by decide
theorem test_wrong_class : ¬ (Instr.idleAttn 0x02).WellFormed bootConfig := by decide
theorem test_wrong_policy_strict : ¬ (Instr.escapeNextDataStrict 0xAA).WellFormed bootConfig := by
  decide
theorem test_wrong_policy_liberal : ¬ (Instr.escapeNextDataLiberal 0xAA).WellFormed tc1s := by
  decide

/-! ## Decoding: bits 7 to 0 the operand byte, bits 15 to 8 the kind byte
(notes/assumptions/6.md); the kind of a cell is `1 000 m nnn` with the state
number `nnn` of R32 and the policy `m`. -/

theorem test_decode_idle :
    decodeTableWord 16 0b1000000011111111 = some (.idleAttn 0xFF) ∧
    decodeTableWord 16 0b1000000000000010 = some (.idleStx 0x02) ∧
    decodeTableWord 16 0b1000000000000011 = some (.idleEtx 0x03) ∧
    decodeTableWord 16 0b1000000000010000 = some (.idleEsc 0x10) ∧
    decodeTableWord 16 0b1000000010101010 = some (.idleData 0xAA) := by decide

theorem test_decode_sawAttention :
    decodeTableWord 16 0b1000000111111111 = some (.sawAttentionAttn 0xFF) ∧
    decodeTableWord 16 0b1000000100000010 = some (.sawAttentionStx 0x02) ∧
    decodeTableWord 16 0b1000000100000011 = some (.sawAttentionEtx 0x03) ∧
    decodeTableWord 16 0b1000000100010000 = some (.sawAttentionEsc 0x10) ∧
    decodeTableWord 16 0b1000000110101010 = some (.sawAttentionData 0xAA) := by decide

theorem test_decode_sawStart :
    decodeTableWord 16 0b1000001011111111 = some (.sawStartAttn 0xFF) ∧
    decodeTableWord 16 0b1000001000000010 = some (.sawStartStx 0x02) ∧
    decodeTableWord 16 0b1000001000000011 = some (.sawStartEtx 0x03) ∧
    decodeTableWord 16 0b1000001000010000 = some (.sawStartEsc 0x10) ∧
    decodeTableWord 16 0b1000001010101010 = some (.sawStartData 0xAA) := by decide

theorem test_decode_expectDestination :
    decodeTableWord 16 0b1000001111111111 = some (.expectDestinationAttn 0xFF) ∧
    decodeTableWord 16 0b1000001100000010 = some (.expectDestinationStx 0x02) ∧
    decodeTableWord 16 0b1000001100000011 = some (.expectDestinationEtx 0x03) ∧
    decodeTableWord 16 0b1000001100010000 = some (.expectDestinationEsc 0x10) ∧
    decodeTableWord 16 0b1000001110101010 = some (.expectDestinationData 0xAA) := by decide

theorem test_decode_expectType :
    decodeTableWord 16 0b1000010011111111 = some (.expectTypeAttn 0xFF) ∧
    decodeTableWord 16 0b1000010000000010 = some (.expectTypeStx 0x02) ∧
    decodeTableWord 16 0b1000010000000011 = some (.expectTypeEtx 0x03) ∧
    decodeTableWord 16 0b1000010000010000 = some (.expectTypeEsc 0x10) ∧
    decodeTableWord 16 0b1000010010101010 = some (.expectTypeData 0xAA) := by decide

theorem test_decode_inPayload :
    decodeTableWord 16 0b1000010111111111 = some (.inPayloadAttn 0xFF) ∧
    decodeTableWord 16 0b1000010100000010 = some (.inPayloadStx 0x02) ∧
    decodeTableWord 16 0b1000010100000011 = some (.inPayloadEtx 0x03) ∧
    decodeTableWord 16 0b1000010100010000 = some (.inPayloadEsc 0x10) ∧
    decodeTableWord 16 0b1000010110101010 = some (.inPayloadData 0xAA) := by decide

theorem test_decode_escapeNext :
    decodeTableWord 16 0b1000011011111111 = some (.escapeNextAttn 0xFF) ∧
    decodeTableWord 16 0b1000011000000010 = some (.escapeNextStx 0x02) ∧
    decodeTableWord 16 0b1000011000000011 = some (.escapeNextEtx 0x03) ∧
    decodeTableWord 16 0b1000011000010000 = some (.escapeNextEsc 0x10) ∧
    decodeTableWord 16 0b1000011010101010 = some (.escapeNextDataLiberal 0xAA) ∧
    decodeTableWord 16 0b1000111010101010 = some (.escapeNextDataStrict 0xAA) := by decide

/-- The policy bit does not disturb the four structural classes (R70). -/
theorem test_decode_policy_bit :
    decodeTableWord 16 0b1000111000000011 = some (.escapeNextEtx 0x03) := by decide

/-- State number 7 is read as `Idle` (R32). -/
theorem test_decode_state_seven :
    decodeTableWord 16 0b1000011110101010 = some (.idleData 0xAA) := by decide

theorem test_decode_events :
    decodeTableWord 16 0b0000000001000001 = some (.byte 0x41) ∧
    decodeTableWord 16 0b0000000100000000 = some .reset ∧
    decodeTableWord 16 0b0000001000000000 = some .tick ∧
    decodeTableWord 16 0b0000001100000000 = some .readAnomaly := by decide

theorem test_decode_rejects :
    decodeRecord bootConfig 0x01 0x02 = .error .strayOperand ∧
    decodeRecord bootConfig 0x00 0x04 = .error .unknownKind ∧
    decodeRecord bootConfig 0x00 0x90 = .error .unknownKind ∧
    decode bootConfig [0x41] = .error .truncated ∧ decode bootConfig [] = .error .truncated :=
  ⟨rfl, rfl, rfl, rfl, rfl⟩

/-- The word placed by `withFetchWord` runs as the first step from reset. -/
theorem test_fetch_event :
    nextOf (step (State.reset.withFetchWord 16 0x0200)) = some { State.reset with tickCount := 1 } := by
  decide

/-- A cell runs through the `BYTE` event that selects it (here under the strict policy). -/
theorem test_fetch_cell :
    nextOf (step (State.reset.withFetchWord 16 0x8EAA)) =
      some { counted (stOf tc1s .idle 0x00 0x00 []) with cfgIn := bootConfig } := by
  decide

/-! ## Single steps: the Examples of the rules -/

/-- R81, R82. -/
theorem test_idle_cells :
    nextOf (exec (.idleAttn 0xFF) (blank .idle)) = some (blank .sawAttention) ∧
    nextOf (exec (.idleStx 0x02) (blank .idle)) = some (blank .idle) ∧
    nextOf (exec (.idleEtx 0x03) (blank .idle)) = some (blank .idle) ∧
    nextOf (exec (.idleEsc 0x10) (blank .idle)) = some (blank .idle) ∧
    nextOf (exec (.idleData 0x55) (blank .idle)) = some (blank .idle) := by decide

/-- R83, R84. -/
theorem test_sawAttention_cells :
    nextOf (exec (.sawAttentionAttn 0xFF) (blank .sawAttention)) = some (blank .sawStart) ∧
    nextOf (exec (.sawAttentionStx 0x02) (blank .sawAttention)) = some (blank .idle) ∧
    nextOf (exec (.sawAttentionEtx 0x03) (blank .sawAttention)) = some (blank .idle) ∧
    nextOf (exec (.sawAttentionEsc 0x10) (blank .sawAttention)) = some (blank .idle) ∧
    nextOf (exec (.sawAttentionData 0x00) (blank .sawAttention)) = some (blank .idle) := by decide

/-- R85, R86: a third `ATTN` goes to `Idle`. -/
theorem test_sawStart_cells :
    nextOf (exec (.sawStartStx 0x02) (blank .sawStart)) = some (blank .expectDestination) ∧
    nextOf (exec (.sawStartAttn 0xFF) (blank .sawStart)) = some (blank .idle) ∧
    nextOf (exec (.sawStartEtx 0x03) (blank .sawStart)) = some (blank .idle) ∧
    nextOf (exec (.sawStartEsc 0x10) (blank .sawStart)) = some (blank .idle) ∧
    nextOf (exec (.sawStartData 0x55) (blank .sawStart)) = some (blank .idle) := by decide

/-- R87: a structural value is the destination itself. -/
theorem test_expectDestination_cells :
    nextOf (exec (.expectDestinationData 0x41) (blank .expectDestination)) =
      some (stOf bootConfig .expectType 0x41 0x00 []) ∧
    nextOf (exec (.expectDestinationAttn 0xFF) (blank .expectDestination)) =
      some (stOf bootConfig .expectType 0xFF 0x00 []) ∧
    nextOf (exec (.expectDestinationStx 0x02) (blank .expectDestination)) =
      some (stOf bootConfig .expectType 0x02 0x00 []) ∧
    nextOf (exec (.expectDestinationEtx 0x03) (blank .expectDestination)) =
      some (stOf bootConfig .expectType 0x03 0x00 []) ∧
    nextOf (exec (.expectDestinationEsc 0x10) (blank .expectDestination)) =
      some (stOf bootConfig .expectType 0x10 0x00 []) := by decide

/-- R88: also when `ESC = 0x10`. -/
theorem test_expectType_cells :
    nextOf (exec (.expectTypeEsc 0x10) (stOf bootConfig .expectType 0x41 0x00 [])) =
      some (stOf bootConfig .inPayload 0x41 0x10 []) ∧
    nextOf (exec (.expectTypeAttn 0xFF) (stOf bootConfig .expectType 0x41 0x00 [])) =
      some (stOf bootConfig .inPayload 0x41 0xFF []) ∧
    nextOf (exec (.expectTypeStx 0x02) (stOf bootConfig .expectType 0x41 0x00 [])) =
      some (stOf bootConfig .inPayload 0x41 0x02 []) ∧
    nextOf (exec (.expectTypeEtx 0x03) (stOf bootConfig .expectType 0x41 0x00 [])) =
      some (stOf bootConfig .inPayload 0x41 0x03 []) ∧
    nextOf (exec (.expectTypeData 0x54) (stOf bootConfig .expectType 0x41 0x00 [])) =
      some (stOf bootConfig .inPayload 0x41 0x54 []) := by decide

/-- R90: raw `ATTN` and `STX` are payload; the third and fourth bytes of `MAXLEN = 4` fit. -/
theorem test_inPayload_append :
    nextOf (exec (.inPayloadData 0xAA) (stOf bootConfig .inPayload 0x41 0x10 [])) =
      some ours ∧
    nextOf (exec (.inPayloadAttn 0xFF) (stOf bootConfig .inPayload 0x41 0x10 [0xA1, 0xA2])) =
      some (stOf bootConfig .inPayload 0x41 0x10 [0xA1, 0xA2, 0xFF]) ∧
    nextOf (exec (.inPayloadStx 0x02) three) =
      some (stOf bootConfig .inPayload 0x41 0x10 [0xA1, 0xA2, 0xA3, 0x02]) := by decide

/-- R90, R100, B6 and E5: with a full buffer a payload byte abandons, the prefix is accepted. -/
theorem test_inPayload_full :
    nextOf (exec (.inPayloadData 0xA5) full) =
      some (blank .idle) ∧
    nextOf (exec (.inPayloadEsc 0x10) full) =
      some (stOf bootConfig .escapeNext 0x41 0x10 [0xA1, 0xA2, 0xA3, 0xA4]) := by decide

/-- R89's Example, and F12: a frame for another node is seen only. -/
theorem test_inPayload_etx :
    nextOf (exec (.inPayloadEtx 0x03) ours) =
      some { blank .idle with
        framesSeen := 1, framesProcessed := 1, output := [⟨0x41, 0x10, [0xAA]⟩] } ∧
    nextOf (exec (.inPayloadEtx 0x03) foreign) =
      some { blank .idle with framesSeen := 1 } := by decide

/-- E6 and A2: a full buffer completes, and the broadcast value is accepted. -/
theorem test_inPayload_etx_full :
    nextOf (exec (.inPayloadEtx 0x03) (stOf bootConfig .inPayload 0x00 0x10 [0xA1, 0xA2, 0xA3, 0xA4])) =
      some { blank .idle with
        framesSeen := 1, framesProcessed := 1
        output := [⟨0x00, 0x10, [0xA1, 0xA2, 0xA3, 0xA4]⟩] } := by decide

/-- R101: every structural value is literal after the prefix, under both policies. -/
theorem test_escapeNext_structural :
    nextOf (exec (.escapeNextEtx 0x03) (stOf bootConfig .escapeNext 0x41 0x10 [])) =
      some (stOf bootConfig .inPayload 0x41 0x10 [0x03]) ∧
    nextOf (exec (.escapeNextEsc 0x10) (stOf bootConfig .escapeNext 0x41 0x10 [])) =
      some (stOf bootConfig .inPayload 0x41 0x10 [0x10]) ∧
    nextOf (exec (.escapeNextAttn 0xFF) (stOf tc1s .escapeNext 0x41 0x10 [])) =
      some (stOf tc1s .inPayload 0x41 0x10 [0xFF]) ∧
    nextOf (exec (.escapeNextStx 0x02) (stOf tc1s .escapeNext 0x41 0x10 [])) =
      some (stOf tc1s .inPayload 0x41 0x10 [0x02]) := by decide

/-- E2, E2S, R102's Example. -/
theorem test_escapeNext_data :
    nextOf (exec (.escapeNextDataLiberal 0xAA) (stOf bootConfig .escapeNext 0x41 0x10 [])) =
      some ours ∧
    nextOf (exec (.escapeNextDataStrict 0xAA) (stOf tc1s .escapeNext 0x41 0x10 [0x01])) =
      some (stOf tc1s .idle 0x00 0x00 []) := by decide

/-- E5: the escaped byte overflows a full buffer. -/
theorem test_escapeNext_full :
    nextOf (exec (.escapeNextEtx 0x03) (stOf bootConfig .escapeNext 0x41 0x10 [0xA1, 0xA2, 0xA3, 0xA4])) =
      some (blank .idle) := by decide

/-- R133: in any state `BYTE(0x00)` advances `byte_count` by 1; and it runs the cell. -/
theorem test_byte :
    nextOf (exec (.byte 0x00) (blank .idle)) = some (counted (blank .idle)) ∧
    nextOf (exec (.byte 0x03) (stOf bootConfig .escapeNext 0x41 0x10 [])) =
      some (counted (stOf bootConfig .inPayload 0x41 0x10 [0x03])) := by decide

/-- R134, and C6: with `CNT_W = 2` the count wraps. -/
theorem test_tick :
    nextOf (exec .tick (blank .sawStart)) = some { blank .sawStart with tickCount := 1 } ∧
    nextOf (exec .tick { State.resetWith { bootConfig with cntW := 2 } with tickCount := 3 }) =
      some { State.resetWith { bootConfig with cntW := 2 } with tickCount := 0 } := by decide

/-- R135. -/
theorem test_readAnomaly :
    nextOf (exec .readAnomaly (stOf bootConfig .escapeNext 0x41 0x10 [0x01])) =
      some (stOf bootConfig .escapeNext 0x41 0x10 [0x01]) := by decide

/-- R170, C4: a frame in progress is lost, the counters are 0, the supplied configuration holds. -/
theorem test_reset :
    nextOf (exec .reset
      { ours with byteCount := 6, cfgIn := tc1s }) =
      some (State.resetWith tc1s) := by decide

/-- R6, D21. -/
theorem test_ill_formed_refused :
    refusalOf (exec (.byte 0x00) (State.resetWith { bootConfig with etx := 0x10 })) =
      some .illFormedConfig ∧
    refusalOf (exec .reset { State.reset with cfgIn := { bootConfig with maxLen := 0 } }) =
      some .illFormedConfig := by decide

/-- A row that the state does not select (R80). -/
theorem test_not_selected :
    refusalOf (exec (.inPayloadEtx 0x03) (blank .idle)) = some .cellNotSelected ∧
    refusalOf (exec (.idleAttn 0x02) (blank .idle)) = some .cellNotSelected ∧
    refusalOf (exec (.escapeNextDataStrict 0xAA) (blank .escapeNext)) = some .cellNotSelected := by
  decide

/-! ## Operations -/

/-- B2, B3. -/
theorem test_append :
    ((stOf bootConfig .inPayload 0x41 0x10 [1, 2, 3]).append 0x7F).2 = .success ∧
    ((stOf bootConfig .inPayload 0x41 0x10 [1, 2, 3]).append 0x7F).1.payload = [1, 2, 3, 0x7F] ∧
    ((stOf bootConfig .inPayload 0x41 0x10 [1, 2, 3, 0x7F]).append 0x80) =
      (stOf bootConfig .inPayload 0x41 0x10 [1, 2, 3, 0x7F], .overflow) := by decide

/-- B4. -/
theorem test_resetFrame :
    (stOf bootConfig .inPayload 0x41 0x10 [0xAA, 0xBB]).resetFrame = blank .inPayload := by decide

/-- A1 to A8. -/
theorem test_accept :
    accept bootConfig 0x41 = true ∧ accept bootConfig 0x00 = true ∧
    accept bootConfig 0x42 = false ∧ accept bootConfig 0x40 = false ∧
    accept bootConfig 0xFF = false ∧ accept bootConfig 0xC1 = false ∧
    accept { bootConfig with nodeId := 0x00 } 0x00 = true ∧
    accept { bootConfig with nodeId := 0x00 } 0x41 = false := by decide

/-- P1: frame A of the reference encoder. -/
theorem test_wireFrame :
    wireFrame bootConfig 0x41 0x54 [0x01, 0x03] =
      [0xFF, 0xFF, 0x02, 0x41, 0x54, 0x01, 0x10, 0x03, 0x03] := by decide

/-- A write keeps the canonical form and replaces an entry of its own index. -/
theorem test_memory_write :
    Memory.write [(0, 1), (2, 3)] 1 7 = [(0, 1), (1, 7), (2, 3)] ∧
    Memory.write [(0, 1), (2, 3)] 2 7 = [(0, 1), (2, 7)] := by decide

theorem test_reset_memory_wf : State.reset.buf.wf := by decide

/-- R156: `ETX` and `ESC` never overflow; R152, R153, R155. -/
theorem test_byteError :
    (stOf bootConfig .inPayload 0x41 0x10 [1, 2, 4, 5]).byteError 0x03 = none ∧
    (stOf bootConfig .inPayload 0x41 0x10 [1, 2, 4, 5]).byteError 0x10 = none ∧
    (stOf bootConfig .inPayload 0x41 0x10 [1, 2, 4, 5]).byteError 0x06 = some .overflow ∧
    (stOf bootConfig .inPayload 0x42 0x10 []).byteError 0x03 = some .misaddressed ∧
    (blank .sawStart).byteError 0xFF = some .malformed ∧ (blank .idle).byteError 0x55 = none := by
  decide

/-! ## Witnesses: for every obligation with hypotheses, values that meet them -/

theorem witness_StepRunsTheDecodedEvent :
    (State.reset.deliver (.byte 0xFF)).input = .byte 0xFF :: [] := by decide

theorem witness_NoEventRetainsTheState :
    (stOf bootConfig .escapeNext 0x41 0x10 [0x01]).input = [] := by decide

theorem witness_ByteCountsThenRunsTheSelectedCell :
    bootConfig.WellFormed ∧ tc1s.WellFormed := by decide

theorem witness_ExactlyOneCellIsEnabled :
    bootConfig.WellFormed ∧
    (Instr.idleAttn 0xFF).cell? = some (.idle, .attnC, 0xFF) ∧
    Instr.idleAttn 0xFF = cellOf bootConfig (blank .idle).ps 0xFF ∧
    (Instr.inPayloadEtx 0x03).cell? = some (.inPayload, .etxC, 0x03) ∧
    Instr.inPayloadEtx 0x03 ≠ cellOf bootConfig (blank .idle).ps 0x03 := by decide

theorem witness_EveryEventStepCompletes :
    (State.reset.deliver .reset).cfg.WellFormed ∧
    (State.reset.deliver .reset).input.head? = some .reset ∧
    (State.reset.deliver .reset).cfgIn.WellFormed ∧
    { State.reset.deliver (.byte 0xFF) with cfgIn := { bootConfig with maxLen := 0 } }.cfg.WellFormed ∧
    { State.reset.deliver (.byte 0xFF) with cfgIn := { bootConfig with maxLen := 0 } }.input.head? ≠
      some .reset ∧
    ¬ { State.reset.deliver (.byte 0xFF) with cfgIn := { bootConfig with maxLen := 0 } }.cfgIn.WellFormed :=
  by decide

theorem witness_IdleAttentionOpensDetection :
    (blank .idle).cfg.WellFormed ∧ (blank .idle).ps = .idle ∧
    (0xFF : Byte) = (blank .idle).cfg.attn := by decide

theorem witness_SecondAttentionArmsSawStart :
    (blank .sawAttention).cfg.WellFormed ∧ (blank .sawAttention).ps = .sawAttention ∧
    (0xFF : Byte) = (blank .sawAttention).cfg.attn := by decide

theorem witness_StartByteOpensAFrame :
    (blank .sawStart).cfg.WellFormed ∧ (blank .sawStart).ps = .sawStart ∧
    (0x02 : Byte) = (blank .sawStart).cfg.stx := by decide

theorem witness_IdleIgnoresEveryOtherByte :
    (blank .idle).cfg.WellFormed ∧ (blank .idle).ps = .idle ∧
    (0x02 : Byte) = (blank .idle).cfg.stx ∧
    (0x03 : Byte) = (blank .idle).cfg.etx ∧
    (0x10 : Byte) = (blank .idle).cfg.esc ∧
    classOf (blank .idle).cfg 0xAA = .dataC ∧ (0x55 : Byte) ≠ (blank .idle).cfg.attn := by decide

theorem witness_BrokenAttentionAbandons :
    (blank .sawAttention).cfg.WellFormed ∧ (blank .sawAttention).ps = .sawAttention ∧
    (0x02 : Byte) = (blank .sawAttention).cfg.stx ∧
    (0x03 : Byte) = (blank .sawAttention).cfg.etx ∧
    (0x10 : Byte) = (blank .sawAttention).cfg.esc ∧
    classOf (blank .sawAttention).cfg 0xAA = .dataC ∧ (0x00 : Byte) ≠ (blank .sawAttention).cfg.attn :=
  by decide

theorem witness_SawStartAbandonsOnAnythingButStx :
    (blank .sawStart).cfg.WellFormed ∧ (blank .sawStart).ps = .sawStart ∧
    (0xFF : Byte) = (blank .sawStart).cfg.attn ∧
    (0x03 : Byte) = (blank .sawStart).cfg.etx ∧
    (0x10 : Byte) = (blank .sawStart).cfg.esc ∧
    classOf (blank .sawStart).cfg 0xAA = .dataC ∧ (0xFF : Byte) ≠ (blank .sawStart).cfg.stx :=
  by decide

theorem witness_EveryByteIsADestination :
    (blank .expectDestination).cfg.WellFormed ∧ (blank .expectDestination).ps = .expectDestination ∧
    (0xFF : Byte) = (blank .expectDestination).cfg.attn ∧
    (0x02 : Byte) = (blank .expectDestination).cfg.stx ∧
    (0x03 : Byte) = (blank .expectDestination).cfg.etx ∧
    (0x10 : Byte) = (blank .expectDestination).cfg.esc ∧
    classOf (blank .expectDestination).cfg 0xAA = .dataC := by decide

theorem witness_EveryByteIsAType :
    (blank .expectType).cfg.WellFormed ∧ (blank .expectType).ps = .expectType ∧
    (0xFF : Byte) = (blank .expectType).cfg.attn ∧
    (0x02 : Byte) = (blank .expectType).cfg.stx ∧
    (0x03 : Byte) = (blank .expectType).cfg.etx ∧
    (0x10 : Byte) = (blank .expectType).cfg.esc ∧
    classOf (blank .expectType).cfg 0xAA = .dataC := by decide

theorem inv_sawAttention : FrameInv (blank .sawAttention) :=
  ⟨by decide, by decide, by decide, by decide, by decide, by decide, by decide, by decide, by decide⟩

theorem inv_sawStart : FrameInv (blank .sawStart) :=
  ⟨by decide, by decide, by decide, by decide, by decide, by decide, by decide, by decide, by decide⟩

theorem inv_full : FrameInv full :=
  ⟨by decide, by decide, by decide, by decide, by decide, by decide, by decide, by decide, by decide⟩

theorem witness_EarlyAbandonOnlyMovesThePs :
    FrameInv (blank .sawAttention) ∧ (0x00 : Byte) ≠ (blank .sawAttention).cfg.attn ∧
    FrameInv (blank .sawStart) ∧ (0xFF : Byte) ≠ (blank .sawStart).cfg.stx ∧
    (0x02 : Byte) = (blank .sawStart).cfg.stx :=
    ⟨inv_sawAttention, by decide, inv_sawStart, by decide, by decide⟩

theorem witness_AttentionRunModuloThree :
    State.reset.cfg.WellFormed ∧ State.reset.ps = .idle ∧ 3 % 3 = 0 ∧ 4 % 3 = 1 ∧ 5 % 3 = 2 :=
  by decide

theorem witness_PayloadByteIsAppendedOrAbandons :
    three.cfg.WellFormed ∧
    three.ps = .inPayload ∧
    three.len + 1 = three.cfg.maxLen ∧
    full.ps = .inPayload ∧
    full.len = bootConfig.maxLen ∧
    (0xFF : Byte) = bootConfig.attn ∧ (0x02 : Byte) = bootConfig.stx ∧
    classOf bootConfig 0xAA = .dataC ∧ (0xAA : Byte) ≠ bootConfig.etx ∧ (0xAA : Byte) ≠ bootConfig.esc :=
  by decide

theorem witness_EndByteCompletesTheFrame :
    bootConfig.WellFormed ∧ (0x03 : Byte) = bootConfig.etx ∧
    full.ps = .inPayload ∧
    full.dest = bootConfig.nodeId ∧
    (stOf bootConfig .inPayload 0x00 0x10 []).ps = .inPayload ∧
    (stOf bootConfig .inPayload 0x00 0x10 []).dest = bootConfig.bcast ∧
    (stOf bootConfig .inPayload 0x42 0x10 []).ps = .inPayload ∧
    ¬ ((0x42 : Byte) = bootConfig.bcast ∨ (0x42 : Byte) = bootConfig.nodeId) := by decide

theorem witness_EscapePrefixIsNotStored :
    bootConfig.WellFormed ∧ full.ps = .inPayload ∧
    (0x10 : Byte) = bootConfig.esc ∧ (blank .escapeNext).ps ≠ .inPayload ∧
    (blank .idle).ps ≠ .inPayload := by decide

theorem witness_EscapedByteIsLiteral :
    bootConfig.WellFormed ∧ tc1s.WellFormed ∧
    (stOf bootConfig .escapeNext 0x41 0x10 [0xA1, 0xA2, 0xA3]).ps = .escapeNext ∧
    (stOf bootConfig .escapeNext 0x41 0x10 [0xA1, 0xA2, 0xA3]).len + 1 = bootConfig.maxLen ∧
    (stOf tc1s .escapeNext 0x41 0x10 [0xA1, 0xA2, 0xA3, 0xA4]).ps = .escapeNext ∧
    (stOf tc1s .escapeNext 0x41 0x10 [0xA1, 0xA2, 0xA3, 0xA4]).len = tc1s.maxLen ∧
    (0xFF : Byte) = tc1s.attn ∧ (0x02 : Byte) = tc1s.stx ∧ (0x03 : Byte) = tc1s.etx ∧
    (0x10 : Byte) = tc1s.esc ∧ classOf tc1s 0x03 ≠ .dataC ∧
    classOf bootConfig 0xAA = .dataC ∧ bootConfig.strictEscape = false := by decide

theorem witness_StrictPolicyAbandons :
    tc1s.WellFormed ∧ (stOf tc1s .escapeNext 0x41 0x10 [0x01]).ps = .escapeNext ∧
    (stOf tc1s .escapeNext 0x41 0x10 [0x01]).cfg.strictEscape = true ∧ classOf tc1s 0xAA = .dataC :=
  by decide

theorem witness_TickCountsAlone :
    (blank .sawStart).cfg.WellFormed := by decide

theorem witness_ReadAnomalyIsANoOp :
    (stOf bootConfig .escapeNext 0x41 0x10 [0x01]).cfg.WellFormed := by decide

theorem witness_ResetClearsFrameAndCounters :
    full.cfgIn.WellFormed := by decide

theorem witness_ResetIsConstruction :
    { full with cfgIn := tc1s }.cfgIn.WellFormed := by decide

theorem witness_IllFormedConfigurationIsRefused :
    ¬ (State.resetWith { bootConfig with etx := 0x10 }).cfg.WellFormed ∧
    (Instr.idleEtx 0x10).cell? = some (.idle, .etxC, 0x10) ∧
    Instr.idleEtx 0x10 = cellOf { bootConfig with etx := 0x10 } .idle 0x10 ∧
    (Instr.idleEsc 0x10).cell? = some (.idle, .escC, 0x10) ∧
    Instr.idleEsc 0x10 ≠ cellOf { bootConfig with etx := 0x10 } .idle 0x10 ∧
    ¬ { State.reset with cfgIn := { bootConfig with maxLen := 0 } }.cfgIn.WellFormed := by decide

theorem witness_AppendIsAllOrNothing :
    three.len < bootConfig.maxLen ∧
    ¬ full.len < bootConfig.maxLen := by decide

theorem witness_BufferReadAfterWrite :
    Memory.wf [(0, 0xA1), (1, 0xA2)] ∧ (0 : Nat) ≠ 1 := by decide

theorem witness_PayloadGrowsInArrivalOrder :
    three.len < bootConfig.maxLen ∧
    FrameInv full :=
  ⟨by decide, inv_full⟩

theorem witness_BufferChangesOnlyByAppendOrReset :
    exec (.byte 0xA4) three =
      .next (counted full) ∧
    exec (.byte 0xA5) full =
      .next (counted (blank .idle)) ∧
    exec (.byte 0x02) (blank .sawStart) = .next (counted (blank .expectDestination)) ∧
    exec (.byte 0x03) (blank .sawStart) = .next (counted (blank .idle)) ∧
    exec (.byte 0xFF) (blank .idle) = .next (counted (blank .sawAttention)) :=
  ⟨eq_next (by decide), eq_next (by decide), eq_next (by decide), eq_next (by decide), eq_next (by decide)⟩

theorem witness_FrameRegistersChangeOnlyInTheHeader :
    exec (.byte 0x41) (blank .expectDestination) =
      .next (counted (stOf bootConfig .expectType 0x41 0x00 [])) ∧
    exec (.byte 0x10) (stOf bootConfig .expectType 0x41 0x00 []) =
      .next (counted (stOf bootConfig .inPayload 0x41 0x10 [])) ∧
    exec (.byte 0xA5) full =
      .next (counted (blank .idle)) :=
  ⟨eq_next (by decide), eq_next (by decide), eq_next (by decide)⟩

theorem witness_FilterAcceptsOwnAndBroadcastOnly :
    accept bootConfig 0x41 = true ∧ accept bootConfig 0x00 = true ∧ accept bootConfig 0xC1 = false :=
  by decide

theorem witness_MisaddressedFrameIsSeenOnly :
    foreign.cfg.WellFormed ∧
    foreign.ps = .inPayload ∧
    foreign.dest ≠ bootConfig.bcast ∧
    foreign.dest ≠ bootConfig.nodeId := by decide

theorem witness_CountersMoveOnlyAtTheirOwnOccurrence :
    exec (.byte 0x03) ours = .next
      { blank .idle with
        framesSeen := 1, framesProcessed := 1, byteCount := 1, output := [⟨0x41, 0x10, [0xAA]⟩] } ∧
    exec (.byte 0x03) foreign = .next
      { blank .idle with framesSeen := 1, byteCount := 1 } ∧
    exec (.byte 0x03) (blank .idle) = .next (counted (blank .idle)) :=
  ⟨eq_next (by decide), eq_next (by decide), eq_next (by decide)⟩

theorem witness_DispatchOnlyAtAnAcceptedFrameEnd :
    step (ours.deliver (.byte 0x03)) = .next
      { blank .idle with
        framesSeen := 1, framesProcessed := 1, byteCount := 1, output := [⟨0x41, 0x10, [0xAA]⟩] } ∧
    step (ours.deliver .reset) = .next State.reset :=
  ⟨eq_next (by decide), eq_next (by decide)⟩

theorem witness_ConfigurationIsConstantButForReset :
    step { State.reset with cfgIn := tc1s, input := [.reset] } = .next (State.resetWith tc1s) ∧
    step (State.reset.deliver .readAnomaly) = .next State.reset :=
  ⟨eq_next (by decide), eq_next (by decide)⟩

theorem witness_CounterWrapsAtItsWidth :
    3 < 2 ^ 2 ∧ 3 = 2 ^ 2 - 1 ∧ 2 < 2 ^ 2 ∧ 2 ≠ 2 ^ 2 - 1 ∧ 0 < 2 ^ 0 := by decide

theorem witness_MalformedOrOverflowAbandonsAtOnce :
    bootConfig.WellFormed ∧ (blank .sawStart).byteError 0xFF = some .malformed ∧
    full.byteError 0xA5 = some .overflow ∧
    tc1s.WellFormed ∧ (stOf tc1s .escapeNext 0x41 0x10 []).byteError 0xAA = some .malformed :=
  by decide

theorem witness_IdleIsReachedOnlyByAbandonOrCompletion :
    exec (.byte 0xA5) full =
      .next (counted (blank .idle)) ∧ full.ps ≠ .idle ∧
    exec (.byte 0xA4) three =
      .next (counted full) ∧
    three.ps ≠ .idle :=
  ⟨eq_next (by decide), by decide, eq_next (by decide), by decide⟩

theorem witness_StepKeepsTheFrameInvariant :
    FrameInv full ∧
    step (full.deliver .tick) =
      .next { full with tickCount := 1 } :=
  ⟨inv_full, eq_next (by decide)⟩

theorem witness_StepKeepsTheFrameInvariant_delivered :
    FrameInv (full.deliver (.byte 0xA5)) ∧
    step (full.deliver (.byte 0xA5)) =
      .next (counted (blank .idle)) :=
  ⟨⟨by decide, by decide, by decide, by decide, by decide, by decide, by decide, by decide, by decide⟩,
    eq_next (by decide)⟩

theorem witness_ResetHasTheFrameInvariant :
    bootConfig.WellFormed ∧ tc1s.WellFormed := by decide

theorem witness_StepKeepsTheBufferCanonical :
    (three.deliver (.byte 0xA4)).buf.wf ∧
    step (three.deliver (.byte 0xA4)) =
      .next (counted full) :=
  ⟨by decide, eq_next (by decide)⟩

theorem witness_SixBytesPerFrameSeen :
    State.accounted { stOf bootConfig .inPayload 0x41 0x10 [] with
      byteCount := 5, input := [.byte 0x03] } ∧
    5 + 1 < 2 ^ bootConfig.cntW ∧
    step { stOf bootConfig .inPayload 0x41 0x10 [] with byteCount := 5, input := [.byte 0x03] } = .next
      { blank .idle with
        framesSeen := 1, framesProcessed := 1, byteCount := 6, output := [⟨0x41, 0x10, []⟩] } :=
  ⟨by unfold State.accounted; decide, by decide, eq_next (by decide)⟩

theorem witness_ProcessedNeverExceedsSeen :
    State.reset.framesProcessed ≤ State.reset.framesSeen ∧
    State.reset.framesSeen + 1 < 2 ^ State.reset.cfg.cntW ∧
    step (ours.deliver (.byte 0x03)) = .next
      { blank .idle with
        framesSeen := 1, framesProcessed := 1, byteCount := 1, output := [⟨0x41, 0x10, [0xAA]⟩] } :=
  ⟨by decide, by decide, eq_next (by decide)⟩

theorem witness_CountersHaveNoBehaviouralEffect :
    sameButCounters (blank .idle) { blank .idle with tickCount := 7, framesSeen := 2 } ∧
    exec (.byte 0xFF) (blank .idle) = .next (counted (blank .sawAttention)) :=
  ⟨by unfold sameButCounters; decide, eq_next (by decide)⟩

theorem witness_FilterDoesNotInfluenceTheFsm :
    sameButAddress ours
      { stOf { bootConfig with nodeId := 0x42 } .inPayload 0x41 0x10 [0xAA] with framesProcessed := 3 } ∧
    exec (.byte 0x03) ours = .next
      { blank .idle with
        framesSeen := 1, framesProcessed := 1, byteCount := 1, output := [⟨0x41, 0x10, [0xAA]⟩] } :=
  ⟨by unfold sameButAddress; decide, eq_next (by decide)⟩

theorem witness_EncodedFrameIsDecoded :
    State.reset.cfg.WellFormed ∧ State.reset.ps = .idle ∧
    [(0xFF : Byte), 0x02, 0x03, 0x10].length = State.reset.cfg.maxLen ∧
    ([] : List Byte).length ≤ State.reset.cfg.maxLen ∧ (0x41 : Byte) = bootConfig.nodeId ∧
    ¬ ((0x42 : Byte) = bootConfig.bcast ∨ (0x42 : Byte) = bootConfig.nodeId) := by decide

theorem witness_OverlongPayloadIsAbandoned :
    State.reset.cfg.WellFormed ∧ State.reset.ps = .idle ∧
    [(0xA1 : Byte), 0xA2, 0xA3, 0xA4].length = State.reset.cfg.maxLen := by decide

theorem witness_EscapedPairIsOneByte :
    three.cfg.WellFormed ∧
    three.ps = .inPayload ∧
    three.len < bootConfig.maxLen ∧
    (∀ e ∈ [Event.tick, .readAnomaly, .tick], e = .tick ∨ e = .readAnomaly) ∧
    bootConfig.strictEscape = false ∧ tc1s.WellFormed ∧
    (stOf tc1s .inPayload 0x41 0x10 []).ps = .inPayload ∧
    (stOf tc1s .inPayload 0x41 0x10 []).len < tc1s.maxLen ∧
    tc1s.strictEscape = true ∧ classOf tc1s 0xAA = .dataC ∧ classOf tc1s 0x03 ≠ .dataC := by decide

theorem witness_SplittingTheStreamChangesOnlyTicks :
    State.reset.cfg.WellFormed ∧
    ∀ e ∈ [Event.tick, .byte 0xFF, .readAnomaly, .byte 0xFF, .tick], e ≠ .reset := by decide

theorem witness_PumpInvocationCounts :
    State.reset.cfg.WellFormed ∧ State.reset.byteCount < 2 ^ State.reset.cfg.cntW ∧
    bytesRead [.nothing, .nothing] = 0 ∧ bytesRead [.got 0xFF, .nothing] = 1 := by decide

theorem witness_DecodeOfEncodeIsTheInstruction :
    bootConfig.WellFormed ∧ (Instr.inPayloadEtx 0x03).WellFormed bootConfig ∧
    (Instr.escapeNextDataLiberal 0xAA).WellFormed bootConfig ∧
    tc1s.WellFormed ∧ (Instr.escapeNextDataStrict 0xAA).WellFormed tc1s ∧
    (Instr.byte 0x03).WellFormed tc1s := by decide

theorem witness_ClassesPartitionTheBytes :
    bootConfig.WellFormed := by decide

theorem witness_PortOrderIsUnobservable :
    bootConfig.WellFormed ∧
    (⟨false, true, 0x03, true, false⟩ : PortIn).rst = false ∧
    (ours.dispatchPorts ⟨false, true, 0x03, true, false⟩).isSome = true ∧
    (blank .idle).dispatchPorts ⟨false, true, 0x03, true, false⟩ = none := by decide

end Sys2Proof.Tests
end

/-! # The scope of the model (spec/00_scope.md)

A step is `exec` of the host's next event (R9), and no instruction has a meaning under a
configuration that is not well formed (R6). -/

namespace Sys2Proof.Machine

/-- Settles O1: what `step` does with a pending event, with the events taken from the host written
as the field they are. -/
theorem stepRunsTheDecodedEvent : Obligations.StepRunsTheDecodedEvent :=
  fun _ _ _ hinput => step_of_input_cons hinput

theorem State.configured_of_illFormed {s : State} (hcfg : ¬ s.cfg.WellFormed) (t : State) :
    s.configured t = .refused .illFormedConfig := if_neg hcfg

/-- Every cell row is a cell, and a row with a `config_condition` one under that policy (R70). -/
theorem exec_cell_shape {i : Instr} {p : ParseState} {k : ByteClass} {b : Byte}
    (hcell : i.cell? = some (p, k, b)) (s : State) :
    ∃ t, (i.policy? = none ∧ exec i s = s.cell p k b t) ∨
      ∃ policy, i.policy? = some policy ∧ exec i s = s.cellUnder policy p k b t := by
  cases i with
  | byte | reset | tick | readAnomaly => cases hcell
  | escapeNextDataLiberal | escapeNextDataStrict => cases hcell; exact ⟨_, .inr ⟨_, rfl, rfl⟩⟩
  | _ => cases hcell; exact ⟨_, .inl ⟨rfl, rfl⟩⟩

/-- A cell row takes its effect exactly where the opcode map gives it, and is not selected in any
other state; the configuration's check comes after the selection. -/
theorem exec_cell_eq {i : Instr} {p : ParseState} {k : ByteClass} {b : Byte}
    (hcell : i.cell? = some (p, k, b)) (s : State) :
    ∃ t, exec i s =
      if i = cellOf s.cfg s.ps b then s.configured t else .refused .cellNotSelected := by
  have hselected := eq_cellOf_iff hcell s.cfg s.ps
  obtain ⟨t, ⟨hpolicy, hexec⟩ | ⟨policy, hpolicy, hexec⟩⟩ := exec_cell_shape hcell s
  · refine ⟨t, hexec.trans (if_congr ?_ rfl rfl)⟩
    simp [hselected, hpolicy]
  · refine ⟨t, ?_⟩
    rw [hexec, State.cellUnder, State.cell, ← ite_and]
    refine if_congr ?_ rfl rfl
    simp only [hselected, hpolicy, Option.some.injEq, forall_eq']
    exact and_rotate

/-- Settles O26: the three events and the selected cell meet the check of `cfg` (R6), RESET that of
the supplied configuration; a cell that is not selected is refused before any check. -/
theorem illFormedConfigurationIsRefused : Obligations.IllFormedConfigurationIsRefused := by
  refine fun s => ⟨fun hcfg => ⟨fun b => ?_, ?_, ?_, fun i p k b hcell => ?_⟩, fun hcfgIn => ?_⟩
  · rw [exec_byte, State.configured_of_illFormed hcfg]
  · rw [exec_tick, State.configured_of_illFormed hcfg]
  · rw [exec_readAnomaly, State.configured_of_illFormed hcfg]
  · obtain ⟨t, hexec⟩ := exec_cell_eq hcell s
    rw [hexec, State.configured_of_illFormed hcfg]
  · rw [exec_reset, if_neg hcfgIn]

end Sys2Proof.Machine

/-! # The state (spec/10_state.md)

What the invariants of R24, R25, R31 and R139 turn on is whether the frame registers are cleared, so
the effects that leave them cleared are proved together. -/

namespace Sys2Proof.Machine

theorem inc_lt (w n : Nat) : inc w n < 2 ^ w := Nat.mod_lt _ (Nat.two_pow_pos w)

/-- Each counter is a `CNT_W`-bit value (R139): the clauses of `FrameInv` about the counters. -/
def State.CountersFit (s : State) : Prop :=
  s.tickCount < 2 ^ s.cfg.cntW ∧ s.byteCount < 2 ^ s.cfg.cntW ∧
    s.framesSeen < 2 ^ s.cfg.cntW ∧ s.framesProcessed < 2 ^ s.cfg.cntW

theorem FrameInv.countersFit {s : State} (h : FrameInv s) : s.CountersFit :=
  ⟨h.tickLt, h.byteLt, h.seenLt, h.processedLt⟩

theorem State.CountersFit.frameComplete {s : State} (h : s.CountersFit) :
    s.frameComplete.CountersFit := by
  obtain ⟨htick, hbyte, -, hprocessed⟩ := h
  rw [State.frameComplete_eq]
  refine ⟨htick, hbyte, inc_lt _ _, ?_⟩
  dsimp only
  split_ifs
  · exact inc_lt _ _
  · exact hprocessed

/-- With a cleared frame every parse state is allowed. -/
theorem FrameInv.of_frameCleared {s : State} (hcfg : s.cfg.WellFormed) (hframe : s.frameCleared)
    (hcounters : s.CountersFit) : FrameInv s := by
  obtain ⟨hdest, htyp, hbuf, hlen⟩ := hframe
  obtain ⟨htick, hbyte, hseen, hprocessed⟩ := hcounters
  exact {
    cfgWf := hcfg
    lenLe := by omega
    cells := by rw [hbuf, hlen]; rfl
    prePayload := fun _ => ⟨hlen, hdest, htyp⟩
    expectType := fun _ => ⟨hlen, htyp⟩
    tickLt := htick
    byteLt := hbyte
    seenLt := hseen
    processedLt := hprocessed }

/-- R31 (a), with the buffer: no cell below `len = 0` holds a value (R24). -/
theorem FrameInv.frameCleared {s : State} (h : FrameInv s)
    (hps : s.ps = .idle ∨ s.ps = .sawAttention ∨ s.ps = .sawStart ∨ s.ps = .expectDestination) :
    s.frameCleared := by
  obtain ⟨hlen, hdest, htyp⟩ := h.prePayload hps
  have hbuf : s.buf = [] := by simpa [hlen] using h.cells
  exact ⟨hdest, htyp, hbuf, hlen⟩

theorem State.resetFrame_of_frameCleared {s : State} (h : s.frameCleared) : s.resetFrame = s := by
  obtain ⟨cfg, ps, dest, typ, buf, len, tc, bc, fs, fp, ci, inp, out⟩ := s
  obtain ⟨rfl, rfl, rfl, rfl⟩ := h
  rfl

/-! ## One lemma per effect that keeps the invariant -/

theorem FrameInv.setInput {s : State} (h : FrameInv s) (es : List Event) :
    FrameInv (s.setInput es) := { h with }

theorem FrameInv.incByteCount {s : State} (h : FrameInv s) : FrameInv s.incByteCount :=
  { h with byteLt := inc_lt _ _ }

theorem FrameInv.incTickCount {s : State} (h : FrameInv s) : FrameInv s.incTickCount :=
  { h with tickLt := inc_lt _ _ }

theorem FrameInv.setPs {s : State} (h : FrameInv s) (hframe : s.frameCleared) (p : ParseState) :
    FrameInv (s.setPs p) := .of_frameCleared h.cfgWf hframe h.countersFit

/-- `abandon()` (R91) and the start byte (R85) clear the frame and set `ps`. -/
theorem FrameInv.resetFrame_setPs {s : State} (h : FrameInv s) (p : ParseState) :
    FrameInv (s.resetFrame.setPs p) :=
  .of_frameCleared h.cfgWf ⟨rfl, rfl, rfl, rfl⟩ h.countersFit

theorem FrameInv.frameComplete {s : State} (h : FrameInv s) : FrameInv s.frameComplete := by
  have hcounters := h.countersFit.frameComplete
  rw [State.frameComplete_eq] at hcounters ⊢
  exact .of_frameCleared h.cfgWf ⟨rfl, rfl, rfl, rfl⟩ hcounters

theorem FrameInv.construct {c : Config} (hc : c.WellFormed) (s : State) :
    FrameInv (s.construct c) :=
  have hpos := Nat.two_pow_pos c.cntW
  .of_frameCleared hc ⟨rfl, rfl, rfl, rfl⟩ ⟨hpos, hpos, hpos, hpos⟩

/-- R87 writes the destination of an empty frame. -/
theorem FrameInv.recordDest {s : State} (h : FrameInv s) (hps : s.ps = .expectDestination)
    (b : Byte) : FrameInv ((s.setDest b).setPs .expectType) :=
  have ⟨hlen, _, htyp⟩ := h.prePayload (.inr (.inr (.inr hps)))
  { h with prePayload := by simp, expectType := fun _ => ⟨hlen, htyp⟩ }

/-- From the type byte on, R31 asks nothing of `dest` and `typ`. -/
theorem FrameInv.recordTyp {s : State} (h : FrameInv s) (b : Byte) :
    FrameInv ((s.setTyp b).setPs .inPayload) :=
  { h with prePayload := by simp, expectType := by simp }

theorem FrameInv.escapePrefix {s : State} (h : FrameInv s) : FrameInv (s.setPs .escapeNext) :=
  { h with prePayload := by simp, expectType := by simp }

/-- The cell at index `len` lies above every cell that holds a value, so the store puts it last. -/
theorem FrameInv.buf_write_len {s : State} (h : FrameInv s) (b : Byte) :
    s.buf.write s.len b = s.buf ++ [(s.len, b)] :=
  Memory.write_above _ _ _ fun k hk => by rwa [h.cells, List.mem_range] at hk

theorem FrameInv.storeByte {s : State} (h : FrameInv s) (hroom : s.len < s.cfg.maxLen) (b : Byte) :
    FrameInv ((s.storeByte b).setPs .inPayload) :=
  { h with
    lenLe := hroom
    cells := by simp [h.buf_write_len, h.cells, List.range_succ]
    prePayload := by simp
    expectType := by simp }

theorem FrameInv.fsmByte {s : State} (h : FrameInv s) (b : Byte) : FrameInv (s.fsmByte b) := by
  rcases s.fsmByte_cases b with ⟨-, -, e⟩ | ⟨hps, -, e⟩ | ⟨hps, -, e⟩ | ⟨-, -, e⟩ | ⟨hps, e⟩ |
    ⟨-, e⟩ | ⟨-, -, e⟩ | ⟨-, -, -, e⟩ | ⟨-, hroom, e⟩ | ⟨-, e⟩ <;> rw [e]
  · exact h
  · exact h.setPs (h.frameCleared (.inl hps)) _
  · exact h.setPs (h.frameCleared (.inr (.inl hps))) _
  · exact h.resetFrame_setPs _
  · exact h.recordDest hps b
  · exact h.recordTyp b
  · exact h.frameComplete
  · exact h.escapePrefix
  · exact h.storeByte hroom b
  · exact h.resetFrame_setPs .idle

/-- Settles O42: every event is an effect that keeps the invariant. -/
theorem stepKeepsTheFrameInvariant : Obligations.StepKeepsTheFrameInvariant := by
  intro s t h hstep
  rcases step_cases hstep with ⟨-, rfl⟩ | ⟨rest, ⟨b, -, -, rfl⟩ | ⟨-, hcfgIn, rfl⟩ | ⟨-, -, rfl⟩ |
    ⟨-, -, rfl⟩⟩
  · exact h
  · exact (h.setInput rest).incByteCount.fsmByte b
  · exact .construct hcfgIn _
  · exact (h.setInput rest).incTickCount
  · exact h.setInput rest

theorem FrameInv.resetWith {c : Config} (hc : c.WellFormed) : FrameInv (State.resetWith c) :=
  have hpos := Nat.two_pow_pos c.cntW
  .of_frameCleared hc ⟨rfl, rfl, rfl, rfl⟩ ⟨hpos, hpos, hpos, hpos⟩

/-- Settles O43: the frame is cleared and the counters are 0 right after construction. -/
theorem resetHasTheFrameInvariant : Obligations.ResetHasTheFrameInvariant :=
  ⟨fun _ => .resetWith, .resetWith (by decide)⟩

/-- A `BYTE` event is the FSM on the byte, then the count (R133), which the FSM does not read. -/
theorem exec_byte_eq_next {s t : State} {b : Byte} :
    exec (.byte b) s = .next t ↔ s.cfg.WellFormed ∧ t = (s.fsmByte b).incByteCount := by
  rw [← State.fsmByte_incByteCount]
  exact execByte_eq_next

/-- Settles O12: before the header the frame is clear already, so clearing it changes `ps` alone. -/
theorem earlyAbandonOnlyMovesThePs : Obligations.EarlyAbandonOnlyMovesThePs := by
  intro s b h
  have cleared (hps : s.ps = .sawAttention ∨ s.ps = .sawStart) (p : ParseState) :
      s.resetFrame.setPs p = s.setPs p := by
    rw [State.resetFrame_of_frameCleared (h.frameCleared (.inr (hps.imp_right .inl)))]
  have next {u : State} (hfsm : s.fsmByte b = u) : exec (.byte b) s = .next u.incByteCount :=
    exec_byte_eq_next.mpr ⟨h.cfgWf, by rw [hfsm]⟩
  refine ⟨fun hps hb => ?_, fun hps hb => ?_, fun hps hb => ?_⟩
  · have hfsm : s.fsmByte b = s.abandon := by simp only [State.fsmByte, hps, if_neg hb]
    exact next (hfsm.trans (cleared (.inl hps) .idle))
  · have hfsm : s.fsmByte b = s.abandon := by simp only [State.fsmByte, hps, if_neg hb]
    exact next (hfsm.trans (cleared (.inr hps) .idle))
  · have hfsm : s.fsmByte b = s.startByte := by simp only [State.fsmByte, hps, if_pos hb]
    exact next (hfsm.trans (cleared (.inr hps) .expectDestination))

end Sys2Proof.Machine

/-! # The buffer and the frame registers (R22, R23, R24, R114)

What a byte does to the frame is one of three things: it stores, it clears, or it leaves the buffer
alone and at most writes its own header register. -/

namespace Sys2Proof.Machine

/-- Settles O30: the three laws of the buffer. -/
theorem bufferReadAfterWrite : Obligations.BufferReadAfterWrite :=
  fun m a b => ⟨m.read?_write_self a b, fun _ => m.read?_write_of_ne b, m.wf_write a b⟩

/-- The byte is payload in the parse state and there is room for it (R90, R101). -/
abbrev State.stores (s : State) (b : Byte) : Prop :=
  ((s.ps = .inPayload ∧ b ≠ s.cfg.etx ∧ b ≠ s.cfg.esc) ∨
    (s.ps = .escapeNext ∧ ¬ (s.cfg.strictEscape = true ∧ classOf s.cfg b = .dataC))) ∧
  s.len < s.cfg.maxLen

/-- A byte that is not stored opens or ends the frame (R84 to R86, R89, R90, R101, R102). -/
abbrev State.clears (s : State) (b : Byte) : Prop :=
  s.ps = .sawStart ∨ s.ps = .escapeNext ∨ (s.ps = .inPayload ∧ b ≠ s.cfg.esc) ∨
    (s.ps = .sawAttention ∧ b ≠ s.cfg.attn)

/-- What the FSM does to the frame registers.  The configuration matters where `ETX = ESC`: the
end byte would then be the `ESC` that `clears` excludes. -/
theorem State.fsmByte_frame {s : State} (hcfg : s.cfg.WellFormed) (b : Byte) :
    (s.stores b ∧ s.fsmByte b = (s.storeByte b).setPs .inPayload) ∨
    (¬ s.stores b ∧ s.clears b ∧ (s.fsmByte b).frameCleared ∧
      (s.fsmByte b).ps =
        if s.ps = .sawStart ∧ b = s.cfg.stx then .expectDestination else .idle) ∨
    (¬ s.stores b ∧ ¬ s.clears b ∧
      (s.fsmByte b).buf = s.buf ∧ (s.fsmByte b).len = s.len ∧
      ((s.fsmByte b).dest = s.dest ∨ (s.ps = .expectDestination ∧ (s.fsmByte b).dest = b)) ∧
      ((s.fsmByte b).typ = s.typ ∨ (s.ps = .expectType ∧ (s.fsmByte b).typ = b))) := by
  obtain ⟨-, -, -, -, -, hne, -⟩ := hcfg
  rcases s.fsmByte_cases b with ⟨hps, -, e⟩ | ⟨hps, -, e⟩ | ⟨hps, hb, e⟩ | ⟨hps, hb, e⟩ |
    ⟨hps, e⟩ | ⟨hps, e⟩ | ⟨hps, hb, e⟩ | ⟨hps, -, hb, e⟩ | ⟨hb, hroom, e⟩ | ⟨hb, e⟩ <;> rw [e]
  · exact .inr (.inr (by simp [State.stores, State.clears, hps]))
  · exact .inr (.inr (by simp [State.stores, State.clears, hps]))
  · exact .inr (.inr (by simp [State.stores, State.clears, hps, hb]))
  · exact .inr (.inl (by simp [State.stores, State.clears, State.frameCleared, hps, hb]))
  · exact .inr (.inr (by simp [State.stores, State.clears, hps]))
  · exact .inr (.inr (by simp [State.stores, State.clears, hps]))
  · refine .inr (.inl ?_)
    simp [State.stores, State.clears, State.frameCleared, State.frameComplete_eq, hps, hb, hne]
  · exact .inr (.inr (by simp [State.stores, State.clears, hps, hb]))
  · exact .inl ⟨⟨hb, hroom⟩, rfl⟩
  · refine .inr (.inl ?_)
    rcases hb with ⟨hps, hb⟩ | ⟨hps, hb⟩ | ⟨hps, hpolicy⟩ | ⟨hps, -, hesc, hfull⟩ | ⟨hps, hfull⟩
    · simp [State.stores, State.clears, State.frameCleared, hps, hb]
    · simp [State.stores, State.clears, State.frameCleared, hps, hb]
    · simp [State.stores, State.clears, State.frameCleared, hps, hpolicy]
    · simp [State.stores, State.clears, State.frameCleared, hps, hesc, hfull]
    · simp [State.stores, State.clears, State.frameCleared, hps, hfull]

/-- Settles O32: the three cases of `fsmByte_frame`, in the order of the statement's tests. -/
theorem bufferChangesOnlyByAppendOrReset : Obligations.BufferChangesOnlyByAppendOrReset := by
  intro s t b hexec
  obtain ⟨hcfg, rfl⟩ := exec_byte_eq_next.mp hexec
  rcases s.fsmByte_frame hcfg b with ⟨hstores, e⟩ | ⟨hstores, hclears, ⟨-, -, hbuf, hlen⟩, hps⟩ |
    ⟨hstores, hclears, hbuf, hlen, -⟩
  · rw [if_pos hstores, e]
    exact ⟨rfl, rfl, hstores.2, s.buf.read?_write_self s.len b,
      fun _ => s.buf.read?_write_of_ne b⟩
  · rw [if_neg hstores, if_pos hclears]
    exact ⟨hps, hlen, fun _ => congrArg (Memory.read? · _) hbuf⟩
  · rw [if_neg hstores, if_neg hclears]
    exact ⟨hlen, fun _ => congrArg (Memory.read? · _) hbuf⟩

/-- Settles O33: a store leaves `dest` and `typ`, and a cleared frame leads to one of two states. -/
theorem frameRegistersChangeOnlyInTheHeader : Obligations.FrameRegistersChangeOnlyInTheHeader := by
  intro s t b hexec
  obtain ⟨hcfg, rfl⟩ := exec_byte_eq_next.mp hexec
  rcases s.fsmByte_frame hcfg b with ⟨-, e⟩ | ⟨-, -, ⟨hdest, htyp, -⟩, hps⟩ |
    ⟨-, -, -, -, hdest, htyp⟩
  · rw [e]
    exact ⟨.inl rfl, .inl rfl⟩
  · have hps : (s.fsmByte b).ps = .idle ∨ (s.fsmByte b).ps = .expectDestination := by
      rw [hps]
      split_ifs <;> simp
    exact ⟨.inr (.inr ⟨hps, hdest⟩), .inr (.inr ⟨hps, htyp⟩)⟩
  · exact ⟨hdest.imp_right .inl, htyp.imp_right .inl⟩

theorem State.fsmByte_buf_wf {s : State} (hcfg : s.cfg.WellFormed) (hwf : s.buf.wf) (b : Byte) :
    (s.fsmByte b).buf.wf := by
  rcases s.fsmByte_frame hcfg b with ⟨-, e⟩ | ⟨-, -, ⟨-, -, hbuf, -⟩, -⟩ | ⟨-, -, hbuf, -⟩
  · rw [e]
    exact s.buf.wf_write s.len b hwf
  · rw [hbuf]
    exact List.Pairwise.nil
  · rwa [hbuf]

/-- Settles O44: only a byte and RESET touch the buffer, and RESET empties it. -/
theorem stepKeepsTheBufferCanonical : Obligations.StepKeepsTheBufferCanonical := by
  intro s t hwf hstep
  rcases step_cases hstep with ⟨-, rfl⟩ | ⟨rest, ⟨b, -, hcfg, rfl⟩ | ⟨-, -, rfl⟩ | ⟨-, -, rfl⟩ |
    ⟨-, -, rfl⟩⟩
  · exact hwf
  · exact State.fsmByte_buf_wf (s := (s.setInput rest).incByteCount) hcfg hwf b
  · exact List.Pairwise.nil
  · exact hwf
  · exact hwf

end Sys2Proof.Machine

/-! # The configuration and the counters (R26, R27)

RESET alone takes a configuration.  No check and no effect reads a counter but to count; for the
cell rows this is the same fact about the FSM, since the FSM's effect is the only one they have. -/

namespace Sys2Proof.Machine

/-- Settles O38: the configuration after each case of a step. -/
theorem configurationIsConstantButForReset : Obligations.ConfigurationIsConstantButForReset := by
  intro s t hstep
  rcases step_cases hstep with ⟨-, rfl⟩ | ⟨rest, ⟨b, -, -, rfl⟩ | ⟨hinput, -, rfl⟩ | ⟨-, -, rfl⟩ |
    ⟨-, -, rfl⟩⟩
  · exact ⟨rfl, .inl rfl⟩
  · exact ⟨State.fsmByte_cfgIn .., .inl (State.fsmByte_cfg ..)⟩
  · exact ⟨rfl, .inr ⟨rest, hinput, rfl⟩⟩
  · exact ⟨rfl, .inl rfl⟩
  · exact ⟨rfl, .inl rfl⟩

theorem exec_reset_eq_next {s t : State} :
    exec .reset s = .next t ↔ s.cfgIn.WellFormed ∧ s.construct s.cfgIn = t := by
  rw [exec_reset]
  split_ifs with hcfgIn
  · exact ⟨fun e => ⟨hcfgIn, (by injection e)⟩, fun e => (by rw [e.2])⟩
  · exact ⟨fun e => (by cases e), fun e => absurd e.1 hcfgIn⟩

/-- Settles O24: `construct` writes every field but those of the host. -/
theorem resetIsConstruction : Obligations.ResetIsConstruction :=
  fun _ hcfgIn => exec_reset_eq_next.mpr ⟨hcfgIn, rfl⟩

/-- Under a well-formed configuration a test for a constant is a test of the class (R61). -/
theorem eq_constant_iff_classOf {c : Config} (h : c.WellFormed) (b : Byte) :
    (b = c.attn ↔ classOf c b = .attnC) ∧ (b = c.stx ↔ classOf c b = .stxC) ∧
      (b = c.etx ↔ classOf c b = .etxC) ∧ (b = c.esc ↔ classOf c b = .escC) := by
  obtain ⟨h₁, h₂, h₃, h₄, h₅, h₆, -⟩ := h
  unfold classOf
  split_ifs <;> simp_all

/-- The map of classes (R69) and the test-by-test skeleton (R80) agree, entry by entry. -/
theorem exec_cellOf {s : State} (hcfg : s.cfg.WellFormed) (b : Byte) :
    exec (cellOf s.cfg s.ps b) s = .next (s.fsmByte b) := by
  obtain ⟨hattn, hstx, hetx, hesc⟩ := eq_constant_iff_classOf hcfg b
  cases hps : s.ps <;> cases hclass : classOf s.cfg b <;> cases hpolicy : s.cfg.strictEscape <;>
    simp [cellOf, State.fsmByte, State.cellUnder, State.cell_selected hcfg hps hclass,
      hattn, hstx, hetx, hesc, hps, hclass, hpolicy]

/-- Every cell row has one effect, that of the FSM on its byte, where the opcode map gives it. -/
theorem exec_cell_eq_next {i : Instr} {p : ParseState} {k : ByteClass} {b : Byte} {s t : State}
    (hcell : i.cell? = some (p, k, b)) :
    exec i s = .next t ↔ i = cellOf s.cfg s.ps b ∧ s.cfg.WellFormed ∧ t = s.fsmByte b := by
  constructor
  · intro hexec
    obtain ⟨u, hu⟩ := exec_cell_eq hcell s
    rw [hu] at hexec
    split_ifs at hexec with hi
    obtain ⟨hcfg, rfl⟩ := State.configured_eq_next.mp hexec
    have hfsm := exec_cellOf hcfg b
    rw [← hi, hu, if_pos hi] at hfsm
    exact ⟨hi, State.configured_eq_next.mp hfsm⟩
  · rintro ⟨rfl, hcfg, rfl⟩
    exact exec_cellOf hcfg b

/-- `s` with other counters. -/
def State.setCounters (k : CounterValues) (s : State) : State :=
  { s with
    tickCount := k.tickCount, byteCount := k.byteCount
    framesSeen := k.framesSeen, framesProcessed := k.framesProcessed }

theorem sameButCounters_iff {s t : State} :
    sameButCounters s t ↔ ∃ k, t = s.setCounters k := by
  constructor
  · exact fun h => ⟨t.readCounters, h⟩
  · rintro ⟨k, rfl⟩
    rfl

theorem sameButCounters.ite {p : Prop} [Decidable p] {s s' t t' : State}
    (hthen : sameButCounters s t) (helse : sameButCounters s' t') :
    sameButCounters (if p then s else s') (if p then t else t') := by
  split_ifs
  · exact hthen
  · exact helse

theorem sameButCounters_frameComplete (k : CounterValues) (s : State) :
    sameButCounters s.frameComplete (s.setCounters k).frameComplete := by
  rw [State.frameComplete_eq, State.frameComplete_eq]
  rfl

theorem sameButCounters_appendOrAbandon (k : CounterValues) (s : State) (b : Byte) :
    sameButCounters (s.appendOrAbandon b) ((s.setCounters k).appendOrAbandon b) := by
  rw [State.appendOrAbandon_eq, State.appendOrAbandon_eq]
  exact .ite rfl rfl

/-- The FSM tests no counter, and its effects write the other fields from the other fields. -/
theorem sameButCounters_fsmByte (k : CounterValues) (s : State) (b : Byte) :
    sameButCounters (s.fsmByte b) ((s.setCounters k).fsmByte b) := by
  have hcomplete := sameButCounters_frameComplete k s
  have happend := sameButCounters_appendOrAbandon k s b
  obtain ⟨cfg, ps, dest, typ, buf, len, tc, bc, fs, fp, ci, inp, out⟩ := s
  cases ps with
  | idle => exact .ite rfl rfl
  | sawAttention => exact .ite rfl rfl
  | sawStart => exact .ite rfl rfl
  | expectDestination => rfl
  | expectType => rfl
  | inPayload => exact .ite hcomplete (.ite rfl happend)
  | escapeNext => exact .ite rfl happend

/-- Settles O47: the check before an effect reads the configuration, a cell row besides `ps` and the
byte; neither depends on a counter. -/
theorem countersHaveNoBehaviouralEffect : Obligations.CountersHaveNoBehaviouralEffect := by
  intro i s t s' hsame hexec
  obtain ⟨k, rfl⟩ := sameButCounters_iff.mp hsame
  cases hcell : i.cell? with
  | some x =>
    obtain ⟨p, c, b⟩ := x
    obtain ⟨hi, hcfg, rfl⟩ := (exec_cell_eq_next hcell).mp hexec
    exact ⟨_, (exec_cell_eq_next hcell).mpr ⟨hi, hcfg, rfl⟩, sameButCounters_fsmByte k s b⟩
  | none =>
    cases i with
    | byte b =>
      obtain ⟨hcfg, rfl⟩ := execByte_eq_next.mp hexec
      exact ⟨_, execByte_eq_next.mpr ⟨hcfg, rfl⟩,
        sameButCounters_fsmByte (s.setCounters k).incByteCount.readCounters s.incByteCount b⟩
    | reset =>
      obtain ⟨hcfgIn, rfl⟩ := exec_reset_eq_next.mp hexec
      exact ⟨_, exec_reset_eq_next.mpr ⟨hcfgIn, rfl⟩, rfl⟩
    | tick =>
      obtain ⟨hcfg, rfl⟩ := State.configured_eq_next.mp hexec
      exact ⟨_, State.configured_eq_next.mpr ⟨hcfg, rfl⟩, rfl⟩
    | readAnomaly =>
      obtain ⟨hcfg, rfl⟩ := State.configured_eq_next.mp hexec
      exact ⟨_, State.configured_eq_next.mpr ⟨hcfg, rfl⟩, rfl⟩
    | _ => cases hcell

end Sys2Proof.Machine

/-! # What a run keeps (spec/20_memory.md)

The state moves only when an event arrives (R50), so a run of events is their effects in order.
Payload bytes are kept in arrival order (R42), and where the stream is cut between bytes is not kept
at all but for `tick_count` (R46). -/

namespace Sys2Proof.Machine

/-- Settles O2: with no event pending a step has nothing to run. -/
theorem noEventRetainsTheState : Obligations.NoEventRetainsTheState :=
  fun _ => step_of_input_nil

theorem State.append_of_room {s : State} (hroom : s.len < s.cfg.maxLen) (b : Byte) :
    s.append b = (s.storeByte b, .success) := if_pos hroom

/-- In the canonical form every listed cell is the first with its index. -/
theorem Memory.read?_of_mem {m : Memory} (hwf : m.wf) {k : Nat} {v : Byte} (hmem : (k, v) ∈ m) :
    m.read? k = some v := by
  induction m with
  | nil => cases hmem
  | cons x m ih =>
    obtain ⟨hlt, hwf⟩ := List.pairwise_cons.mp hwf
    rcases List.mem_cons.mp hmem with rfl | hmem
    · exact if_pos rfl
    · have hne : x.1 ≠ k := (hlt k (List.mem_map_of_mem hmem)).ne
      exact (if_neg hne).trans (ih hwf hmem)

theorem FrameInv.buf_wf {s : State} (h : FrameInv s) : s.buf.wf := by
  rw [Memory.wf, h.cells]
  exact List.pairwise_lt_range

/-- The cells listed are `0 .. len-1`, those that the payload reads, in its order. -/
theorem FrameInv.payload_eq {s : State} (h : FrameInv s) : s.payload = s.buf.map Prod.snd := by
  rw [State.payload, ← h.cells, List.map_map]
  refine List.map_congr_left fun cell hcell => ?_
  simp only [Function.comp_apply, State.bufRead, Memory.read?_of_mem h.buf_wf hcell,
    Option.getD_some]

/-- Settles O31: an append with room is a store, and the store puts the byte last. -/
theorem payloadGrowsInArrivalOrder : Obligations.PayloadGrowsInArrivalOrder := by
  refine fun s b => ⟨fun hroom => ?_, ?_, FrameInv.payload_eq⟩
  · rw [State.append_of_room hroom]
    exact s.payload_storeByte b
  · rw [State.payload, List.length_map, List.length_range]

/-! ## The run of a list of events -/

/-- The effect of an event under a well-formed configuration (R133 to R135, R170). -/
def State.afterEvent (s : State) : Event → State
  | .byte b => s.incByteCount.fsmByte b
  | .tick => s.incTickCount
  | .readAnomaly => s
  | .reset => s.construct s.cfgIn

theorem State.afterEvent_cfg (s : State) {e : Event} (he : e ≠ .reset) :
    (s.afterEvent e).cfg = s.cfg := by
  cases e with
  | byte b => exact State.fsmByte_cfg ..
  | tick | readAnomaly => rfl
  | reset => exact absurd rfl he

/-- A step on a pending event is the effect of the event, which does not read those behind it. -/
theorem step_setInput_cons {s : State} (hcfg : s.cfg.WellFormed) {e : Event} (he : e ≠ .reset)
    (rest : List Event) :
    step (s.setInput (e :: rest)) = .next ((s.afterEvent e).setInput rest) := by
  cases e with
  | byte b =>
    rw [State.afterEvent, ← State.fsmByte_setInput]
    exact step_byte (s := s.setInput (.byte b :: rest)) rfl hcfg
  | tick | readAnomaly =>
    rw [step_of_input_cons rfl]
    exact State.configured_eq_next.mpr ⟨hcfg, rfl⟩
  | reset => exact absurd rfl he

/-- A run over pending events without RESET is their effects in order. -/
theorem run_setInput_append {s : State} (hcfg : s.cfg.WellFormed) {es : List Event}
    (hes : ∀ e ∈ es, e ≠ .reset) (rest : List Event) :
    Sys2Proof.core.run es.length (s.setInput (es ++ rest)) =
      .next ((es.foldl State.afterEvent s).setInput rest) := by
  induction es generalizing s with
  | nil => rfl
  | cons e es ih =>
    obtain ⟨he, hrest⟩ := List.forall_mem_cons.mp hes
    rw [List.length_cons, List.cons_append, run_cons _ (step_setInput_cons hcfg he _)]
    exact ih ((s.afterEvent_cfg he).symm ▸ hcfg) hrest

/-! ## The ticks of a stream -/

/-- `s` with another `tick_count`. -/
def State.setTickCount (n : Nat) (s : State) : State := { s with tickCount := n }

/-- The FSM neither reads nor writes `tick_count`. -/
theorem State.fsmByte_setTickCount (b : Byte) (n : Nat) (s : State) :
    (s.setTickCount n).fsmByte b = (s.fsmByte b).setTickCount n := by
  obtain ⟨cfg, ps, dest, typ, buf, len, tc, bc, fs, fp, ci, inp, out⟩ := s
  cases ps <;>
    simp only [State.fsmByte, State.payloadByte, State.escapedByte, State.appendOrAbandon_eq,
      State.frameComplete_eq, apply_ite (State.setTickCount n)] <;>
    rfl

/-- Without its ticks and anomalies a stream has the same effect, but leaves `tick_count`. -/
theorem foldl_afterEvent_filter {es : List Event} (hes : ∀ e ∈ es, e ≠ .reset) (n : Nat)
    (s : State) :
    (es.filter fun e => e ≠ .tick ∧ e ≠ .readAnomaly).foldl State.afterEvent (s.setTickCount n) =
      (es.foldl State.afterEvent s).setTickCount n := by
  induction es generalizing s with
  | nil => rfl
  | cons e es ih =>
    obtain ⟨he, hrest⟩ := List.forall_mem_cons.mp hes
    cases e with
    | byte b =>
      have hbyte : (s.setTickCount n).afterEvent (.byte b) =
          (s.afterEvent (.byte b)).setTickCount n := s.incByteCount.fsmByte_setTickCount b n
      rw [List.filter_cons_of_pos (by simp), List.foldl_cons, hbyte]
      exact ih hrest _
    | tick => exact ih hrest s.incTickCount
    | readAnomaly => exact ih hrest s
    | reset => exact absurd rfl he

/-- Settles O52: both runs are the effects of their events, those of the second without ticks. -/
theorem splittingTheStreamChangesOnlyTicks : Obligations.SplittingTheStreamChangesOnlyTicks := by
  intro s es hcfg hes bs
  have hbs : ∀ e ∈ bs, e ≠ .reset := fun e he => hes e (List.mem_of_mem_filter he)
  have hall := run_setInput_append hcfg hes []
  have hbytes := run_setInput_append hcfg hbs []
  rw [List.append_nil] at hall hbytes
  have hticks : bs.foldl State.afterEvent s =
      (es.foldl State.afterEvent s).setTickCount s.tickCount :=
    foldl_afterEvent_filter hes s.tickCount s
  rw [hticks] at hbytes
  exact ⟨_, _, hall, hbytes, rfl⟩

end Sys2Proof.Machine

/-! # The encoding of events and frames (spec/30_encoding.md)

Event by event a byte is read for its class (R61) and every event has its rule (R65).  The event
record is read back cell by cell from its mode bit and its state number (R69, R70).  A frame is read
back from its encoding (R71) since each of its parts is: the header, every escaped payload byte, the
end byte. -/

namespace Sys2Proof.Machine

/-! ## The byte classes (R61) -/

/-- The four structural values, as numbers of bytes. -/
def structuralBytes (c : Config) : Finset (Fin (2 ^ 8)) :=
  ({c.attn, c.stx, c.etx, c.esc} : Finset Byte).image BitVec.toFin

theorem classOf_ofFin_eq_dataC_iff {c : Config} {n : Fin (2 ^ 8)} :
    classOf c (BitVec.ofFin n) = .dataC ↔ n ∉ structuralBytes c := by
  have hne (x : Byte) : BitVec.ofFin n ≠ x ↔ n ≠ x.toFin := by
    rw [ne_eq, ne_eq, ← BitVec.toFin_inj]
  simp [classOf_eq_dataC, structuralBytes, hne]

theorem card_structuralBytes {c : Config} (hcfg : c.WellFormed) : (structuralBytes c).card = 4 := by
  obtain ⟨h₁, h₂, h₃, h₄, h₅, h₆, -⟩ := hcfg
  rw [structuralBytes, Finset.card_image_of_injective _ BitVec.toFin_injective]
  simp [h₁, h₂, h₃, h₄, h₅, h₆]

/-- Settles O57: the bytes of `DATA_C` are the complement of four distinct values. -/
theorem classesPartitionTheBytes : Obligations.ClassesPartitionTheBytes := by
  refine fun c hcfg => ⟨fun b => ?_, ?_⟩
  · obtain ⟨hattn, hstx, hetx, hesc⟩ := eq_constant_iff_classOf hcfg b
    exact ⟨hattn.symm, hstx.symm, hetx.symm, hesc.symm, classOf_eq_dataC⟩
  · have hdata : (Finset.univ.filter fun n => classOf c (BitVec.ofFin n) = .dataC) =
        (structuralBytes c)ᶜ := by
      ext n
      simp [classOf_ofFin_eq_dataC_iff]
    calc ((List.finRange 256).filter fun n => classOf c (BitVec.ofFin n) = .dataC).length
      _ = (Finset.univ.filter fun n => classOf c (BitVec.ofFin n) = .dataC).card := rfl
      _ = 252 := by rw [hdata, Finset.card_compl, card_structuralBytes hcfg, Fintype.card_fin]

/-! ## The event record (notes/assumptions/6.md) -/

/-- The kind byte of a cell: bit 7, the mode bit `STRICT_ESCAPE` and the state number. -/
def cellKind (strict : Bool) (p : ParseState) : Byte :=
  BitVec.ofNat 8 (0x80 + 8 * strict.toNat + (stateNumber p).toNat)

/-- A cell row is recorded with its own parse state and, where it has one, its own policy. -/
theorem encode_cell {i : Instr} {p : ParseState} {k : ByteClass} {b : Byte}
    (hcell : i.cell? = some (p, k, b)) : encode i = [b, cellKind (i.policy?.getD false) p] := by
  cases i with
  | byte | reset | tick | readAnomaly => cases hcell
  | _ => cases hcell; rfl

/-- A kind byte of a cell names the cell that its mode and its state select for the byte. -/
theorem decodeRecord_cellKind (c : Config) (b : Byte) (strict : Bool) (p : ParseState) :
    decodeRecord c b (cellKind strict p) = .ok (cellOf { c with strictEscape := strict } p b) := by
  cases strict <;> cases p <;> rfl

theorem decode_of_decodeRecord {c : Config} {b k : Byte} {i : Instr}
    (hrecord : decodeRecord c b k = .ok i) (rest : List Byte) :
    decode c (b :: k :: rest) = .ok (i, rest) := by
  rw [decode, hrecord]

/-- Settles O54: the record of a cell carries all that selects the cell but the class of its byte,
which well-formedness gives. -/
theorem decodeOfEncodeIsTheInstruction : Obligations.DecodeOfEncodeIsTheInstruction := by
  intro c i rest _ hi
  cases hcell : i.cell? with
  | some x =>
    obtain ⟨p, k, b⟩ := x
    have hclass : classOf c b = k := Laws.classOf_of_wellFormed hi hcell
    have hselected : i = cellOf { c with strictEscape := i.policy?.getD false } p b :=
      (eq_cellOf_iff hcell _ p).mpr ⟨rfl, hclass, fun x hx => by rw [hx]; rfl⟩
    rw [encode_cell hcell]
    refine decode_of_decodeRecord ?_ rest
    rw [decodeRecord_cellKind, ← hselected]
  | none =>
    cases i with
    | byte | reset | tick | readAnomaly => exact decode_of_decodeRecord rfl rest
    | _ => cases hcell

/-- Settles O55: the records are concrete words. -/
theorem listedRecordsDecode : Obligations.ListedRecordsDecode := by
  unfold Obligations.ListedRecordsDecode
  decide

/-! ## Every event has its rule (R65) -/

/-- Settles O5: a pending event has its effect, and no effect touches the events behind it. -/
theorem everyEventStepCompletes : Obligations.EveryEventStepCompletes := by
  intro s hcfg hcfgIn
  cases hinput : s.input with
  | nil => exact ⟨s, step_of_input_nil hinput, hinput⟩
  | cons e rest =>
    by_cases he : e = .reset
    · subst he
      have hstep := exec_reset_eq_next (s := s.setInput rest).mpr
        ⟨hcfgIn (by rw [hinput]; rfl), rfl⟩
      exact ⟨_, (step_of_input_cons hinput).trans hstep, rfl⟩
    · have hs : s.setInput (e :: rest) = s := by rw [← hinput]; rfl
      have hstep := step_setInput_cons hcfg he rest
      rw [hs] at hstep
      exact ⟨_, hstep, rfl⟩

/-! ## The bytes of a frame on the wire (R62, R141) -/

/-- The bytes that the frames seen and the frame in progress have taken at least. -/
def State.wireBytes (s : State) : Nat := 6 * s.framesSeen + wireBytesBehind s.ps + s.len

theorem State.accounted_iff {s : State} : s.accounted ↔ s.wireBytes ≤ s.byteCount := Iff.rfl

/-- One byte advances the frame in progress by at most one byte; the end byte is its sixth. -/
theorem State.wireBytes_fsmByte_le (b : Byte) (s : State) :
    (s.fsmByte b).wireBytes ≤ s.wireBytes + 1 := by
  have hinc : inc s.cfg.cntW s.framesSeen ≤ s.framesSeen + 1 := Nat.mod_le _ _
  rcases s.fsmByte_cases b with ⟨hps, -, e⟩ | ⟨hps, -, e⟩ | ⟨hps, -, e⟩ | ⟨hps, -, e⟩ | ⟨hps, e⟩ |
    ⟨hps, e⟩ | ⟨hps, -, e⟩ | ⟨hps, -, -, e⟩ | ⟨⟨hps, -⟩ | ⟨hps, -⟩, -, e⟩ | ⟨hps, e⟩ <;>
    simp [State.wireBytes, wireBytesBehind, State.frameComplete_eq, e, hps] <;> omega

@[simp] theorem State.fsmByte_byteCount (b : Byte) (s : State) :
    (s.fsmByte b).byteCount = s.byteCount := by
  rcases s.fsmByte_cases b with ⟨-, -, e⟩ | ⟨-, -, e⟩ | ⟨-, -, e⟩ | ⟨-, -, e⟩ | ⟨-, e⟩ | ⟨-, e⟩ |
    ⟨-, -, e⟩ | ⟨-, -, -, e⟩ | ⟨-, -, e⟩ | ⟨-, e⟩ <;> rw [e] <;> simp [State.frameComplete_eq]

theorem inc_of_lt {w n : Nat} (h : n + 1 < 2 ^ w) : inc w n = n + 1 := Nat.mod_eq_of_lt h

/-- Settles O45: a byte is counted and accounts for at most one byte more; RESET zeroes both. -/
theorem sixBytesPerFrameSeen : Obligations.SixBytesPerFrameSeen := by
  intro s t h hwrap hstep
  rw [State.accounted_iff] at h
  have ht : t.wireBytes ≤ t.byteCount := by
    rcases step_cases hstep with ⟨-, rfl⟩ | ⟨rest, ⟨b, -, -, rfl⟩ | ⟨-, -, rfl⟩ | ⟨-, -, rfl⟩ |
      ⟨-, -, rfl⟩⟩
    · exact h
    · calc ((s.setInput rest).incByteCount.fsmByte b).wireBytes
        _ ≤ s.wireBytes + 1 := State.wireBytes_fsmByte_le b _
        _ ≤ s.byteCount + 1 := Nat.succ_le_succ h
        _ = ((s.setInput rest).incByteCount.fsmByte b).byteCount := by simp [inc_of_lt hwrap]
    · exact Nat.le_refl 0
    · exact h
    · exact h
  refine ⟨ht, ?_⟩
  unfold State.wireBytes at ht
  omega

/-! ## Another node (R70, R120)

No check before an effect and no test of the FSM reads `NODE_ID` or `BCAST`.  Frame-complete alone
does, to decide what it writes to `frames_processed` and to the outputs. -/

/-- `s` with the address constants of `u`, and with what the addressing filter decided in `u`. -/
def State.withAddressOf (s u : State) : State :=
  { s with
    cfg := { s.cfg with nodeId := u.cfg.nodeId, bcast := u.cfg.bcast }
    cfgIn := { s.cfgIn with nodeId := u.cfgIn.nodeId, bcast := u.cfgIn.bcast }
    framesProcessed := u.framesProcessed
    output := u.output }

theorem sameButAddress_iff {s t : State} : sameButAddress s t ↔ ∃ u, t = s.withAddressOf u := by
  constructor
  · exact fun h => ⟨t, h⟩
  · rintro ⟨u, rfl⟩
    rfl

theorem sameButAddress.ite {p : Prop} [Decidable p] {s s' t t' : State}
    (hthen : sameButAddress s t) (helse : sameButAddress s' t') :
    sameButAddress (if p then s else s') (if p then t else t') := by
  split_ifs
  · exact hthen
  · exact helse

theorem sameButAddress_frameComplete (s u : State) :
    sameButAddress s.frameComplete (s.withAddressOf u).frameComplete := by
  rw [State.frameComplete_eq, State.frameComplete_eq]
  rfl

theorem sameButAddress_appendOrAbandon (s u : State) (b : Byte) :
    sameButAddress (s.appendOrAbandon b) ((s.withAddressOf u).appendOrAbandon b) := by
  rw [State.appendOrAbandon_eq, State.appendOrAbandon_eq]
  exact .ite rfl rfl

theorem sameButAddress_fsmByte (s u : State) (b : Byte) :
    sameButAddress (s.fsmByte b) ((s.withAddressOf u).fsmByte b) := by
  have hcomplete := sameButAddress_frameComplete s u
  have happend := sameButAddress_appendOrAbandon s u b
  obtain ⟨cfg, ps, dest, typ, buf, len, tc, bc, fs, fp, ci, inp, out⟩ := s
  cases ps with
  | idle => exact .ite rfl rfl
  | sawAttention => exact .ite rfl rfl
  | sawStart => exact .ite rfl rfl
  | expectDestination => rfl
  | expectType => rfl
  | inPayload => exact .ite hcomplete (.ite rfl happend)
  | escapeNext => exact .ite rfl happend

/-- Settles O48: what selects a cell row and what is checked before an effect are the structural
constants, the policy, `MAXLEN` and `CNT_W`; the effects are the FSM's, or leave the filter out. -/
theorem filterDoesNotInfluenceTheFsm : Obligations.FilterDoesNotInfluenceTheFsm := by
  intro i s t s' hsame hexec
  obtain ⟨u, rfl⟩ := sameButAddress_iff.mp hsame
  cases hcell : i.cell? with
  | some x =>
    obtain ⟨p, k, b⟩ := x
    obtain ⟨hi, hcfg, rfl⟩ := (exec_cell_eq_next hcell).mp hexec
    exact ⟨_, (exec_cell_eq_next hcell).mpr ⟨hi, hcfg, rfl⟩, sameButAddress_fsmByte s u b⟩
  | none =>
    cases i with
    | byte b =>
      obtain ⟨hcfg, rfl⟩ := execByte_eq_next.mp hexec
      exact ⟨_, execByte_eq_next.mpr ⟨hcfg, rfl⟩, sameButAddress_fsmByte s.incByteCount u b⟩
    | reset =>
      obtain ⟨hcfgIn, rfl⟩ := exec_reset_eq_next.mp hexec
      exact ⟨_, exec_reset_eq_next.mpr ⟨hcfgIn, rfl⟩, rfl⟩
    | tick =>
      obtain ⟨hcfg, rfl⟩ := State.configured_eq_next.mp hexec
      exact ⟨_, State.configured_eq_next.mpr ⟨hcfg, rfl⟩, rfl⟩
    | readAnomaly =>
      obtain ⟨hcfg, rfl⟩ := State.configured_eq_next.mp hexec
      exact ⟨_, State.configured_eq_next.mpr ⟨hcfg, rfl⟩, rfl⟩
    | _ => cases hcell

/-! ## The parts of a frame on the wire (R62, R63) -/

/-- The FSM on each byte in order. -/
def State.fsmBytes (w : List Byte) (s : State) : State := w.foldl (fun s b => s.fsmByte b) s

theorem State.fsmBytes_cons (b : Byte) (w : List Byte) (s : State) :
    s.fsmBytes (b :: w) = (s.fsmByte b).fsmBytes w := rfl

theorem State.fsmBytes_append (v w : List Byte) (s : State) :
    s.fsmBytes (v ++ w) = (s.fsmBytes v).fsmBytes w := List.foldl_append

/-- The header opens an empty frame for its destination and type, whatever those bytes are. -/
theorem State.fsmBytes_wireHeader {s : State} (hps : s.ps = .idle) (d ty : Byte) :
    s.fsmBytes (wireHeader s.cfg d ty) =
      ((s.resetFrame.setDest d).setTyp ty).setPs .inPayload := by
  have hattn : s.fsmByte s.cfg.attn = s.setPs .sawAttention := by
    simp [State.fsmByte, hps, State.firstAttention]
  rw [wireHeader, State.fsmBytes_cons, hattn]
  simp only [State.fsmBytes_cons, State.fsmByte, State.setPs_ps, State.setPs_cfg, if_true,
    State.secondAttention, State.startByte, State.recordDest, State.recordTyp]
  rfl

/-- An escaped byte is stored, or rejected by the strict policy (R101, R102). -/
theorem State.fsmBytes_esc_pair {s : State} (hcfg : s.cfg.WellFormed) (hps : s.ps = .inPayload)
    (hroom : s.len < s.cfg.maxLen) (x : Byte) :
    s.fsmBytes [s.cfg.esc, x] =
      if s.cfg.strictEscape = true ∧ classOf s.cfg x = .dataC then s.abandon
      else (s.storeByte x).setPs .inPayload := by
  obtain ⟨-, -, -, -, -, hne, -⟩ := hcfg
  have hesc : s.fsmByte s.cfg.esc = s.setPs .escapeNext := by
    simp [State.fsmByte, hps, hne.symm, State.escapePrefix]
  rw [State.fsmBytes_cons, hesc]
  refine if_congr Iff.rfl rfl ?_
  rw [State.escapedByte, State.appendOrAbandon_eq]
  exact if_pos hroom

/-- A payload byte is stored from its own encoding, escaped or not (R63, R105). -/
theorem State.fsmBytes_escSeq {s : State} (hcfg : s.cfg.WellFormed) (hps : s.ps = .inPayload)
    (hroom : s.len < s.cfg.maxLen) (x : Byte) :
    s.fsmBytes (escSeq s.cfg x) = s.storeByte x := by
  have hstored : (s.storeByte x).setPs .inPayload = s.storeByte x := by rw [← hps]; rfl
  rw [escSeq]
  split_ifs with hclass
  · obtain ⟨-, -, hetx, hesc⟩ := classOf_eq_dataC.mp hclass
    change s.fsmByte x = _
    simp [State.fsmByte, hps, hetx, hesc, State.payloadByte, State.appendOrAbandon_eq, hroom,
      hstored]
  · rw [State.fsmBytes_esc_pair hcfg hps hroom, if_neg fun h => hclass h.2, hstored]

/-- The stores of a whole payload. -/
def State.storeBytes (p : List Byte) (s : State) : State := p.foldl (fun s x => s.storeByte x) s

theorem State.storeBytes_cons (x : Byte) (p : List Byte) (s : State) :
    s.storeBytes (x :: p) = (s.storeByte x).storeBytes p := rfl

theorem State.payload_storeBytes (p : List Byte) (s : State) :
    (s.storeBytes p).payload = s.payload ++ p := by
  induction p generalizing s with
  | nil => exact (List.append_nil _).symm
  | cons x p ih =>
    rw [State.storeBytes_cons, ih, State.payload_storeByte, List.append_assoc,
      List.singleton_append]

/-- Stores leave every field but `buf` and `len`. -/
theorem State.storeBytes_frame (p : List Byte) (s : State) :
    s.storeBytes p = { s with buf := (s.storeBytes p).buf, len := (s.storeBytes p).len } := by
  induction p generalizing s with
  | nil => rfl
  | cons x p ih => exact ih (s.storeByte x)

/-- A payload that fits is stored from its encoding, under either policy. -/
theorem State.fsmBytes_wirePayload {s : State} (hcfg : s.cfg.WellFormed) (hps : s.ps = .inPayload)
    {p : List Byte} (hfits : s.len + p.length ≤ s.cfg.maxLen) :
    s.fsmBytes (wirePayload s.cfg p) = s.storeBytes p := by
  induction p generalizing s with
  | nil => rfl
  | cons x p ih =>
    rw [List.length_cons] at hfits
    have hroom : s.len < s.cfg.maxLen := by omega
    have hrest : (s.storeByte x).len + p.length ≤ s.cfg.maxLen := by
      rw [State.storeByte_len]
      omega
    rw [wirePayload, List.flatMap_cons, State.fsmBytes_append,
      State.fsmBytes_escSeq hcfg hps hroom]
    exact ih (s := s.storeByte x) hcfg hps hrest

theorem State.fsmByte_etx {s : State} (hps : s.ps = .inPayload) {b : Byte} (hb : b = s.cfg.etx) :
    s.fsmByte b = s.frameComplete := by
  simp [State.fsmByte, hps, hb]

/-- The encoding of a frame that fits is the frame, seen and dispatched if it is accepted (R71). -/
theorem State.fsmBytes_wireFrame {s : State} (hcfg : s.cfg.WellFormed) (hps : s.ps = .idle)
    (d ty : Byte) {p : List Byte} (hfits : p.length ≤ s.cfg.maxLen) :
    s.fsmBytes (wireFrame s.cfg d ty p) =
      { s with
        ps := .idle, dest := 0x00, typ := 0x00, buf := [], len := 0
        framesSeen := inc s.cfg.cntW s.framesSeen
        framesProcessed := if d = s.cfg.bcast ∨ d = s.cfg.nodeId
          then inc s.cfg.cntW s.framesProcessed else s.framesProcessed
        output := if d = s.cfg.bcast ∨ d = s.cfg.nodeId
          then s.output ++ [⟨d, ty, p⟩] else s.output } := by
  let opened := ((s.resetFrame.setDest d).setTyp ty).setPs .inPayload
  have hstored : s.fsmBytes (wireHeader s.cfg d ty ++ wirePayload s.cfg p) =
      opened.storeBytes p := by
    have hempty : opened.len + p.length ≤ opened.cfg.maxLen := (Nat.zero_add _).trans_le hfits
    rw [State.fsmBytes_append, State.fsmBytes_wireHeader hps]
    exact State.fsmBytes_wirePayload (s := opened) hcfg rfl hempty
  have hframe := opened.storeBytes_frame p
  have hcompleted : (opened.storeBytes p).completedFrame = ⟨d, ty, p⟩ := by
    rw [State.completedFrame, State.payload_storeBytes, hframe]
    rfl
  have hend : (opened.storeBytes p).fsmByte s.cfg.etx = (opened.storeBytes p).frameComplete :=
    State.fsmByte_etx (by rw [hframe]; rfl) (by rw [hframe]; rfl)
  rw [wireFrame, State.fsmBytes_append, hstored, State.fsmBytes_cons, hend,
    State.frameComplete_eq, hcompleted, hframe]
  simp only [accept_iff]
  rfl

/-! ## Runs of bytes (R133) -/

/-- The FSM does not read `byte_count`, so a run of bytes is the FSM on them, and their count. -/
theorem foldl_afterEvent_bytes (w : List Byte) (s : State) :
    (w.map Event.byte).foldl State.afterEvent s = State.incByteCount^[w.length] (s.fsmBytes w) := by
  induction w generalizing s with
  | nil => rfl
  | cons b w ih =>
    have hcount : s.incByteCount.fsmBytes (b :: w) = (s.fsmBytes (b :: w)).incByteCount :=
      List.foldl_hom State.incByteCount fun s b => s.fsmByte_incByteCount b
    rw [List.length_cons, Function.iterate_succ_apply, ← hcount]
    exact ih (s.incByteCount.fsmByte b)

theorem iterate_incByteCount {n : Nat} (hn : n ≠ 0) (s : State) :
    State.incByteCount^[n] s = { s with byteCount := (s.byteCount + n) % 2 ^ s.cfg.cntW } := by
  obtain ⟨n, rfl⟩ := Nat.exists_eq_succ_of_ne_zero hn
  induction n with
  | zero => rfl
  | succ n ih =>
    rw [Function.iterate_succ_apply', ih n.succ_ne_zero, State.incByteCount]
    simp [inc, Nat.add_assoc]

/-- A run of bytes with whatever events come after. -/
theorem run_bytes {s : State} (hcfg : s.cfg.WellFormed) (w : List Byte) (rest : List Event) :
    Sys2Proof.core.run w.length (s.setInput (w.map .byte ++ rest)) =
      .next ((State.incByteCount^[w.length] (s.fsmBytes w)).setInput rest) := by
  have hrun := run_setInput_append hcfg (es := w.map .byte) (by simp) rest
  rwa [List.length_map, foldl_afterEvent_bytes] at hrun

/-- Settles O49: the run of the encoding is the FSM on the encoding, and its length counted. -/
theorem encodedFrameIsDecoded : Obligations.EncodedFrameIsDecoded := by
  intro s d ty p rest hcfg hps hfits w
  have hw : w.length ≠ 0 := Nat.succ_ne_zero _
  refine (run_bytes hcfg w rest).trans ?_
  rw [iterate_incByteCount hw, State.fsmBytes_wireFrame hcfg hps d ty hfits]
  rfl

/-- Events without RESET have the effect of the bytes among them, from another `tick_count`. -/
theorem foldl_afterEvent_eq_fsmBytes {es : List Event} (hes : ∀ e ∈ es, e ≠ .reset) {w : List Byte}
    (hw : (es.filter fun e => e ≠ .tick ∧ e ≠ .readAnomaly) = w.map .byte) (s : State) :
    ∃ n, es.foldl State.afterEvent s =
      State.incByteCount^[w.length] ((s.setTickCount n).fsmBytes w) := by
  have hfold := foldl_afterEvent_filter hes (es.foldl State.afterEvent s).tickCount s
  rw [hw, foldl_afterEvent_bytes] at hfold
  exact ⟨_, hfold.symm⟩

/-- Settles O51: the events between the pair move `tick_count` alone, which the FSM does not
read. -/
theorem escapedPairIsOneByte : Obligations.EscapedPairIsOneByte := by
  intro s x mid hcfg hps hroom hmid
  let es : List Event := .byte s.cfg.esc :: (mid ++ [.byte x])
  have hes : ∀ e ∈ es, e ≠ .reset := by
    simp only [es, List.forall_mem_cons, List.forall_mem_append]
    refine ⟨by simp, fun e he => ?_, by simp⟩
    rcases hmid e he with rfl | rfl <;> simp
  have hbytes : (es.filter fun e => e ≠ .tick ∧ e ≠ .readAnomaly) =
      [s.cfg.esc, x].map Event.byte := by
    simpa [es, ← or_iff_not_imp_left] using hmid
  obtain ⟨n, hfold⟩ := foldl_afterEvent_eq_fsmBytes hes hbytes s
  have hpair : (s.setTickCount n).fsmBytes [s.cfg.esc, x] =
      if s.cfg.strictEscape = true ∧ classOf s.cfg x = .dataC then (s.setTickCount n).abandon
      else ((s.setTickCount n).storeByte x).setPs .inPayload :=
    State.fsmBytes_esc_pair (s := s.setTickCount n) hcfg hps hroom x
  have hrun := run_setInput_append hcfg hes []
  have hlength : es.length = mid.length + 2 := by simp [es]
  rw [List.append_nil, hlength, hfold] at hrun
  refine ⟨_, hrun, rfl, fun haccepted => ?_, fun hstrict hdata => ?_⟩
  · have hstored : ¬ (s.cfg.strictEscape = true ∧ classOf s.cfg x = .dataC) := by
      rcases haccepted with hliberal | hclass
      · simp [hliberal]
      · exact fun h => hclass h.2
    rw [hpair, if_neg hstored]
    exact ⟨rfl, rfl, rfl, s.payload_storeByte x⟩
  · rw [hpair, if_pos ⟨hstrict, hdata⟩]
    exact ⟨rfl, rfl, rfl, rfl, rfl⟩

end Sys2Proof.Machine

/-! # The framing FSM (spec/40_framing_fsm.md)

The FSM has one rule for each parse state (R80).  A cell row and the event `BYTE` both take the rule's
effect, the event with the count of R133; so every row of the table is its rule read in the two
forms, and the statements about runs and about abandoning are about the rules alone. -/

namespace Sys2Proof.Machine

/-! ## The rule of each parse state -/

theorem State.setPs_self {s : State} {p : ParseState} (hps : s.ps = p) : s.setPs p = s := by
  rw [← hps]
  rfl

theorem State.fsmByte_idle {s : State} (hps : s.ps = .idle) (b : Byte) :
    s.fsmByte b = if b = s.cfg.attn then s.setPs .sawAttention else s := by
  rw [State.fsmByte, hps, State.firstAttention, State.stayIdle, State.setPs_self hps]

theorem State.fsmByte_sawAttention {s : State} (hps : s.ps = .sawAttention) (b : Byte) :
    s.fsmByte b = if b = s.cfg.attn then s.setPs .sawStart else s.abandon := by
  rw [State.fsmByte, hps, State.secondAttention]

theorem State.fsmByte_sawStart {s : State} (hps : s.ps = .sawStart) (b : Byte) :
    s.fsmByte b =
      if b = s.cfg.stx then s.resetFrame.setPs .expectDestination else s.abandon := by
  rw [State.fsmByte, hps, State.startByte]

theorem State.fsmByte_expectDestination {s : State} (hps : s.ps = .expectDestination) (b : Byte) :
    s.fsmByte b = (s.setDest b).setPs .expectType := by
  rw [State.fsmByte, hps, State.recordDest]

theorem State.fsmByte_expectType {s : State} (hps : s.ps = .expectType) (b : Byte) :
    s.fsmByte b = (s.setTyp b).setPs .inPayload := by
  rw [State.fsmByte, hps, State.recordTyp]

theorem State.fsmByte_inPayload {s : State} (hps : s.ps = .inPayload) (b : Byte) :
    s.fsmByte b =
      if b = s.cfg.etx then s.frameComplete
      else if b = s.cfg.esc then s.setPs .escapeNext
      else if s.len < s.cfg.maxLen then (s.storeByte b).setPs .inPayload else s.abandon := by
  rw [State.fsmByte, hps, State.escapePrefix, State.payloadByte, State.appendOrAbandon_eq]

theorem State.fsmByte_escapeNext {s : State} (hps : s.ps = .escapeNext) (b : Byte) :
    s.fsmByte b =
      if s.cfg.strictEscape = true ∧ classOf s.cfg b = .dataC then s.abandon
      else if s.len < s.cfg.maxLen then (s.storeByte b).setPs .inPayload else s.abandon := by
  rw [State.fsmByte, hps, State.rejectEscaped, State.escapedByte, State.appendOrAbandon_eq]

theorem exec_byte_of_fsmByte {s u : State} (hcfg : s.cfg.WellFormed) {b : Byte}
    (hfsm : s.fsmByte b = u) : exec (.byte b) s = .next u.incByteCount :=
  exec_byte_eq_next.mpr ⟨hcfg, by rw [hfsm]⟩

/-! ## The enabled cell (R80, R93) -/

/-- Settles O4: the enabled cell has the effect of the FSM, and any other is not selected. -/
theorem exactlyOneCellIsEnabled : Obligations.ExactlyOneCellIsEnabled := by
  intro s i p k b hcfg hcell
  obtain ⟨t, hexec⟩ := exec_cell_eq hcell s
  exact ⟨fun hi => ⟨_, (exec_cell_eq_next hcell).mpr ⟨hi, hcfg, rfl⟩⟩,
    fun hi => hexec.trans (if_neg hi)⟩

/-! ## Frame detection (R81 to R86) -/

/-- Settles O6: the rule of `Idle` on `ATTN`. -/
theorem idleAttentionOpensDetection : Obligations.IdleAttentionOpensDetection := by
  intro s b hcfg hps hb
  obtain ⟨hattn, -⟩ := eq_constant_iff_classOf hcfg b
  exact ⟨State.cell_selected hcfg hps (hattn.mp hb),
    exec_byte_of_fsmByte hcfg ((State.fsmByte_idle hps b).trans (if_pos hb))⟩

/-- Settles O7: the other four cells of `Idle` have one effect, to write `Idle` to `ps` again. -/
theorem idleIgnoresEveryOtherByte : Obligations.IdleIgnoresEveryOtherByte := by
  intro s b hcfg hps
  obtain ⟨-, hstx, hetx, hesc⟩ := eq_constant_iff_classOf hcfg b
  have hcell {k : ByteClass} (hk : classOf s.cfg b = k) :
      s.cell .idle k b s.stayIdle = .next s := by
    rw [State.cell_selected hcfg hps hk, State.stayIdle, State.setPs_self hps]
  exact ⟨hcell ∘ hstx.mp, hcell ∘ hetx.mp, hcell ∘ hesc.mp,
    hcell, fun hb => exec_byte_of_fsmByte hcfg ((State.fsmByte_idle hps b).trans (if_neg hb))⟩

/-- Settles O8: the rule of `SawAttention` on `ATTN`. -/
theorem secondAttentionArmsSawStart : Obligations.SecondAttentionArmsSawStart := by
  intro s b hcfg hps hb
  obtain ⟨hattn, -⟩ := eq_constant_iff_classOf hcfg b
  exact ⟨State.cell_selected hcfg hps (hattn.mp hb),
    exec_byte_of_fsmByte hcfg ((State.fsmByte_sawAttention hps b).trans (if_pos hb))⟩

/-- Settles O9: the other four cells of `SawAttention` have one effect. -/
theorem brokenAttentionAbandons : Obligations.BrokenAttentionAbandons := by
  intro s b hcfg hps
  obtain ⟨-, hstx, hetx, hesc⟩ := eq_constant_iff_classOf hcfg b
  have hcell {k : ByteClass} (hk : classOf s.cfg b = k) :
      s.cell .sawAttention k b s.abandon = .next s.abandon := State.cell_selected hcfg hps hk
  exact ⟨hcell ∘ hstx.mp, hcell ∘ hetx.mp, hcell ∘ hesc.mp,
    hcell,
    fun hb => exec_byte_of_fsmByte hcfg ((State.fsmByte_sawAttention hps b).trans (if_neg hb))⟩

/-- Settles O10: the rule of `SawStart` on `STX`. -/
theorem startByteOpensAFrame : Obligations.StartByteOpensAFrame := by
  intro s b hcfg hps hb
  obtain ⟨-, hstx, -⟩ := eq_constant_iff_classOf hcfg b
  exact ⟨State.cell_selected hcfg hps (hstx.mp hb),
    exec_byte_of_fsmByte hcfg ((State.fsmByte_sawStart hps b).trans (if_pos hb))⟩

/-- Settles O11: the other four cells of `SawStart` have one effect. -/
theorem sawStartAbandonsOnAnythingButStx : Obligations.SawStartAbandonsOnAnythingButStx := by
  intro s b hcfg hps
  obtain ⟨hattn, -, hetx, hesc⟩ := eq_constant_iff_classOf hcfg b
  have hcell {k : ByteClass} (hk : classOf s.cfg b = k) :
      s.cell .sawStart k b s.abandon = .next s.abandon := State.cell_selected hcfg hps hk
  exact ⟨hcell ∘ hattn.mp, hcell ∘ hetx.mp, hcell ∘ hesc.mp,
    hcell,
    fun hb => exec_byte_of_fsmByte hcfg ((State.fsmByte_sawStart hps b).trans (if_neg hb))⟩

/-! ## The header (R87, R88) -/

/-- Settles O14: the five cells of `ExpectDestination` have one effect. -/
theorem everyByteIsADestination : Obligations.EveryByteIsADestination := by
  intro s b hcfg hps
  obtain ⟨hattn, hstx, hetx, hesc⟩ := eq_constant_iff_classOf hcfg b
  have hcell {k : ByteClass} (hk : classOf s.cfg b = k) :
      s.cell .expectDestination k b (s.recordDest b) = .next (s.recordDest b) :=
    State.cell_selected hcfg hps hk
  have hbyte := exec_byte_of_fsmByte hcfg (State.fsmByte_expectDestination hps b)
  refine ⟨hcell ∘ hattn.mp, hcell ∘ hstx.mp,
    hcell ∘ hetx.mp, hcell ∘ hesc.mp, hcell, hbyte, fun t ht => ?_⟩
  cases hbyte.symm.trans ht
  rfl

/-- Settles O15: the five cells of `ExpectType` have one effect. -/
theorem everyByteIsAType : Obligations.EveryByteIsAType := by
  intro s b hcfg hps
  obtain ⟨hattn, hstx, hetx, hesc⟩ := eq_constant_iff_classOf hcfg b
  have hcell {k : ByteClass} (hk : classOf s.cfg b = k) :
      s.cell .expectType k b (s.recordTyp b) = .next (s.recordTyp b) :=
    State.cell_selected hcfg hps hk
  have hbyte := exec_byte_of_fsmByte hcfg (State.fsmByte_expectType hps b)
  refine ⟨hcell ∘ hattn.mp, hcell ∘ hstx.mp,
    hcell ∘ hetx.mp, hcell ∘ hesc.mp, hcell, hbyte, fun t ht => ?_⟩
  cases hbyte.symm.trans ht
  rfl

/-! ## The payload (R89, R90) -/

/-- Settles O16: the three cells that append have one effect, in two arms. -/
theorem payloadByteIsAppendedOrAbandons : Obligations.PayloadByteIsAppendedOrAbandons := by
  intro s b hcfg hps
  obtain ⟨hattn, hstx, -⟩ := eq_constant_iff_classOf hcfg b
  have hcell {k : ByteClass} (hk : classOf s.cfg b = k) :
      s.cell .inPayload k b (s.payloadByte b) =
        if s.len < s.cfg.maxLen then .next ((s.storeByte b).setPs .inPayload)
        else .next s.abandon := by
    rw [State.cell_selected hcfg hps hk, State.payloadByte, State.appendOrAbandon_eq,
      apply_ite Host.Outcome.next]
  refine ⟨hcell ∘ hattn.mp, hcell ∘ hstx.mp, hcell, fun hetx hesc => ?_⟩
  rw [exec_byte_of_fsmByte hcfg (State.fsmByte_inPayload hps b), if_neg hetx, if_neg hesc,
    apply_ite State.incByteCount, apply_ite Host.Outcome.next]
  rfl

/-- Settles O17: frame-complete, field by field. -/
theorem endByteCompletesTheFrame : Obligations.EndByteCompletesTheFrame := by
  intro s b hcfg hps hb
  obtain ⟨-, -, hetx, -⟩ := eq_constant_iff_classOf hcfg b
  have hcell : exec (.inPayloadEtx b) s = .next s.frameComplete :=
    State.cell_selected hcfg hps (hetx.mp hb)
  have hbyte := exec_byte_of_fsmByte hcfg (State.fsmByte_etx hps hb)
  rw [State.frameComplete_eq] at hcell hbyte
  simp only [accept_iff] at hcell hbyte
  exact ⟨hcell, hbyte⟩

/-- What a byte adds to the outputs (R122). -/
theorem State.fsmByte_output (b : Byte) (s : State) :
    (s.fsmByte b).output =
      if b = s.cfg.etx ∧ s.ps = .inPayload ∧ (s.dest = s.cfg.bcast ∨ s.dest = s.cfg.nodeId)
      then s.output ++ [s.completedFrame] else s.output := by
  cases hps : s.ps with
  | idle => simp [State.fsmByte_idle hps, apply_ite State.output]
  | sawAttention => simp [State.fsmByte_sawAttention hps, apply_ite State.output]
  | sawStart => simp [State.fsmByte_sawStart hps, apply_ite State.output]
  | expectDestination => simp [State.fsmByte_expectDestination hps]
  | expectType => simp [State.fsmByte_expectType hps]
  | inPayload =>
    by_cases hb : b = s.cfg.etx
    · rw [State.fsmByte_etx hps hb, State.frameComplete_eq]
      simp [accept_iff, hb]
    · simp [State.fsmByte_inPayload hps, apply_ite State.output, hb]
  | escapeNext => simp [State.fsmByte_escapeNext hps, apply_ite State.output]

/-- Settles O37: the dispatch of a byte, and no other event touches the outputs. -/
theorem dispatchOnlyAtAnAcceptedFrameEnd : Obligations.DispatchOnlyAtAnAcceptedFrameEnd := by
  intro s t hstep
  rcases step_cases hstep with ⟨hinput, rfl⟩ | ⟨rest, ⟨b, hinput, -, rfl⟩ | ⟨hinput, -, rfl⟩ |
    ⟨hinput, -, rfl⟩ | ⟨hinput, -, rfl⟩⟩
  · exact .inr (by simp [hinput])
  · have hevent : (∃ r, s.input = .byte s.cfg.etx :: r) ↔ b = s.cfg.etx := by simp [hinput]
    rw [hevent, State.fsmByte_output]
    by_cases hdispatch :
        b = s.cfg.etx ∧ s.ps = .inPayload ∧ (s.dest = s.cfg.bcast ∨ s.dest = s.cfg.nodeId)
    · obtain ⟨hb, hps, hdest⟩ := hdispatch
      exact .inl ⟨hb, hps, hdest, if_pos ⟨hb, hps, hdest⟩⟩
    · exact .inr ⟨hdispatch, if_neg hdispatch⟩
  · exact .inr (by simp [hinput])
  · exact .inr (by simp [hinput])
  · exact .inr ⟨by simp [hinput], rfl⟩

/-! ## Abandoning (R91, R152, R153) -/

/-- Settles O29: `abandon()` writes constants, so the second writes what the first did. -/
theorem abandonIsIdempotentAndSilent : Obligations.AbandonIsIdempotentAndSilent :=
  fun _ => ⟨rfl, rfl⟩

/-- The byte is out of place (R152), or payload for which there is no room (R153). -/
abbrev State.rejects (s : State) (b : Byte) : Prop :=
  (s.ps = .sawAttention ∧ b ≠ s.cfg.attn) ∨ (s.ps = .sawStart ∧ b ≠ s.cfg.stx) ∨
    (s.ps = .escapeNext ∧ s.cfg.strictEscape = true ∧ classOf s.cfg b = .dataC) ∨
    (s.ps = .inPayload ∧ b ≠ s.cfg.etx ∧ b ≠ s.cfg.esc ∧ s.cfg.maxLen ≤ s.len) ∨
    (s.ps = .escapeNext ∧ s.cfg.maxLen ≤ s.len)

/-- What the taxonomy puts in class (a) or (b) is on the list of R152 and R153. -/
theorem State.rejects_of_byteError {s : State} {b : Byte}
    (herror : s.byteError b = some .malformed ∨ s.byteError b = some .overflow) : s.rejects b := by
  unfold State.byteError State.appendError at herror
  cases hps : s.ps with
  | idle | expectDestination | expectType => simp [hps] at herror
  | sawAttention =>
    simp only [hps] at herror
    exact .inl ⟨hps, fun hb => by simp [hb] at herror⟩
  | sawStart =>
    simp only [hps] at herror
    exact .inr (.inl ⟨hps, fun hb => by simp [hb] at herror⟩)
  | inPayload =>
    simp only [hps] at herror
    split_ifs at herror <;> simp_all [State.rejects]
  | escapeNext =>
    simp only [hps] at herror
    split_ifs at herror <;> simp_all [State.rejects]

theorem State.fsmByte_of_rejects {s : State} {b : Byte} (h : s.rejects b) :
    s.fsmByte b = s.abandon := by
  rcases h with ⟨hps, hb⟩ | ⟨hps, hb⟩ | ⟨hps, hpolicy⟩ | ⟨hps, hetx, hesc, hfull⟩ | ⟨hps, hfull⟩
  · rw [State.fsmByte_sawAttention hps, if_neg hb]
  · rw [State.fsmByte_sawStart hps, if_neg hb]
  · rw [State.fsmByte_escapeNext hps, if_pos hpolicy]
  · rw [State.fsmByte_inPayload hps, if_neg hetx, if_neg hesc, if_neg hfull.not_gt]
  · rw [State.fsmByte_escapeNext hps, if_neg hfull.not_gt, ite_self]

/-- Settles O40: a byte of class (a) or (b) is rejected, and a rejected byte abandons the frame. -/
theorem malformedOrOverflowAbandonsAtOnce : Obligations.MalformedOrOverflowAbandonsAtOnce :=
  fun _ _ hcfg herror =>
    exec_byte_of_fsmByte hcfg (State.fsmByte_of_rejects (State.rejects_of_byteError herror))

/-- Outside `Idle`, only a rejected byte and the end byte lead there. -/
theorem State.fsmByte_ps_eq_idle_iff {s : State} (hidle : s.ps ≠ .idle) (b : Byte) :
    (s.fsmByte b).ps = .idle ↔ s.rejects b ∨ (s.ps = .inPayload ∧ b = s.cfg.etx) := by
  unfold State.rejects
  cases hps : s.ps with
  | idle => exact absurd hps hidle
  | sawAttention => simp [State.fsmByte_sawAttention hps, apply_ite State.ps]
  | sawStart => simp [State.fsmByte_sawStart hps, apply_ite State.ps]
  | expectDestination => simp [State.fsmByte_expectDestination hps]
  | expectType => simp [State.fsmByte_expectType hps]
  | inPayload =>
    by_cases hb : b = s.cfg.etx
    · rw [State.fsmByte_etx hps hb, State.frameComplete_eq]
      simp [hb]
    · rw [State.fsmByte_inPayload hps, if_neg hb]
      split_ifs with hesc hroom <;> simp_all
  | escapeNext =>
    rw [State.fsmByte_escapeNext hps]
    split_ifs with hpolicy hroom <;> simp_all

/-- Settles O41: the count leaves `ps`. -/
theorem idleIsReachedOnlyByAbandonOrCompletion :
    Obligations.IdleIsReachedOnlyByAbandonOrCompletion := by
  intro s t b hexec hidle
  obtain ⟨-, rfl⟩ := exec_byte_eq_next.mp hexec
  refine (State.fsmByte_ps_eq_idle_iff hidle b).trans ?_
  simp only [State.rejects, or_assoc]

/-! ## Runs of the attention byte (R94, R179) -/

theorem State.fsmBytes_cfg (w : List Byte) (s : State) : (s.fsmBytes w).cfg = s.cfg := by
  induction w generalizing s with
  | nil => rfl
  | cons b w ih => rw [State.fsmBytes_cons, ih, State.fsmByte_cfg]

theorem State.iterate_incByteCount_ps (n : Nat) (s : State) :
    (State.incByteCount^[n] s).ps = s.ps := by
  induction n with
  | zero => rfl
  | succ n ih => rw [Function.iterate_succ_apply', State.incByteCount_ps, ih]

/-- A run of bytes alone ends with the parse state of the FSM. -/
theorem run_bytes_ps {s : State} (hcfg : s.cfg.WellFormed) (w : List Byte) :
    ∃ t, Sys2Proof.core.run w.length { s with input := w.map .byte } = .next t ∧
      t.input = [] ∧ t.ps = (s.fsmBytes w).ps := by
  have hrun := run_bytes hcfg w []
  rw [List.append_nil] at hrun
  exact ⟨_, hrun, rfl, State.iterate_incByteCount_ps _ _⟩

/-- The parse state after `n` attention bytes from `Idle`. -/
def attentionPhase (n : Nat) : ParseState :=
  if n % 3 = 0 then .idle else if n % 3 = 1 then .sawAttention else .sawStart

/-- The three phases follow each other in a circle: a third `ATTN` is rejected (R86, D14). -/
theorem State.fsmByte_attn_ps {s : State} (hcfg : s.cfg.WellFormed) {n : Nat}
    (hps : s.ps = attentionPhase n) : (s.fsmByte s.cfg.attn).ps = attentionPhase (n + 1) := by
  obtain ⟨hne, -⟩ := hcfg
  have hmod : n % 3 = 0 ∨ n % 3 = 1 ∨ n % 3 = 2 := by omega
  rcases hmod with h | h | h <;> simp only [attentionPhase, h, Nat.add_mod n 1] at hps ⊢
  · rw [State.fsmByte_idle hps, if_pos rfl]
    rfl
  · rw [State.fsmByte_sawAttention hps, if_pos rfl]
    rfl
  · rw [State.fsmByte_sawStart hps, if_neg hne]
    rfl

theorem State.fsmBytes_attn_ps {s : State} (hcfg : s.cfg.WellFormed) (hps : s.ps = .idle)
    (n : Nat) : (s.fsmBytes (List.replicate n s.cfg.attn)).ps = attentionPhase n := by
  induction n with
  | zero => exact hps
  | succ n ih =>
    have hlast := State.fsmByte_attn_ps (by rwa [State.fsmBytes_cfg]) ih
    rw [State.fsmBytes_cfg] at hlast
    rw [List.replicate_succ', State.fsmBytes_append]
    exact hlast

/-- `STX` opens a frame after the second phase alone. -/
theorem State.fsmByte_stx_ps {s : State} (hcfg : s.cfg.WellFormed) {n : Nat}
    (hps : s.ps = attentionPhase n) :
    (s.fsmByte s.cfg.stx).ps = if n % 3 = 2 then .expectDestination else .idle := by
  obtain ⟨hne, -⟩ := hcfg
  have hmod : n % 3 = 0 ∨ n % 3 = 1 ∨ n % 3 = 2 := by omega
  rcases hmod with h | h | h <;> simp only [attentionPhase, h] at hps ⊢
  · rw [State.fsmByte_idle hps, if_neg hne.symm, hps]
    rfl
  · rw [State.fsmByte_sawAttention hps, if_neg hne.symm]
    rfl
  · rw [State.fsmByte_sawStart hps, if_pos rfl]
    rfl

/-- Settles O13: the phase after the run of `ATTN`, and what `STX` does in it. -/
theorem attentionRunModuloThree : Obligations.AttentionRunModuloThree := by
  intro s n hcfg hps
  have hphase := State.fsmBytes_attn_ps hcfg hps n
  constructor
  · obtain ⟨t, hrun, hinput, ht⟩ := run_bytes_ps hcfg (List.replicate n s.cfg.attn)
    rw [List.length_replicate, List.map_replicate] at hrun
    exact ⟨t, hrun, hinput, ht.trans hphase⟩
  · obtain ⟨t, hrun, hinput, ht⟩ := run_bytes_ps hcfg (List.replicate n s.cfg.attn ++ [s.cfg.stx])
    rw [List.length_append, List.length_replicate, List.map_append, List.map_replicate] at hrun
    have hstx := State.fsmByte_stx_ps (by rwa [State.fsmBytes_cfg]) hphase
    rw [State.fsmBytes_cfg] at hstx
    rw [State.fsmBytes_append] at ht
    exact ⟨t, hrun, hinput, ht.trans hstx⟩

/-! ## Overflow (R110, R115) -/

theorem State.storeBytes_len (p : List Byte) (s : State) :
    (s.storeBytes p).len = s.len + p.length := by
  induction p generalizing s with
  | nil => rfl
  | cons x p ih => rw [State.storeBytes_cons, ih, State.storeByte_len, List.length_cons]; omega

/-- With no room a payload byte abandons the frame from its own encoding, escaped or not. -/
theorem State.fsmBytes_escSeq_of_full {s : State} (hcfg : s.cfg.WellFormed)
    (hps : s.ps = .inPayload) (hfull : s.cfg.maxLen ≤ s.len) (x : Byte) :
    s.fsmBytes (escSeq s.cfg x) = s.abandon := by
  obtain ⟨-, -, -, -, -, hne, -⟩ := hcfg
  rw [escSeq]
  split_ifs with hclass
  · obtain ⟨-, -, hetx, hesc⟩ := classOf_eq_dataC.mp hclass
    exact State.fsmByte_of_rejects (by simp [State.rejects, hps, hetx, hesc, hfull])
  · have hescaped : s.fsmByte s.cfg.esc = s.setPs .escapeNext := by
      rw [State.fsmByte_inPayload hps, if_neg hne.symm, if_pos rfl]
    rw [State.fsmBytes_cons, hescaped]
    exact State.fsmByte_of_rejects (s := s.setPs .escapeNext) (by simp [State.rejects, hfull])

/-- A payload of one byte more than `MAXLEN` fills the buffer, and its last byte clears it. -/
theorem State.fsmBytes_overlong {s : State} (hcfg : s.cfg.WellFormed) (hps : s.ps = .idle)
    (d ty x : Byte) {p : List Byte} (hp : p.length = s.cfg.maxLen) :
    s.fsmBytes (wireHeader s.cfg d ty ++ wirePayload s.cfg (p ++ [x])) = s.abandon := by
  let opened := ((s.resetFrame.setDest d).setTyp ty).setPs .inPayload
  have hpayload : wirePayload s.cfg (p ++ [x]) = wirePayload s.cfg p ++ escSeq s.cfg x := by
    simp [wirePayload]
  have hfill : opened.fsmBytes (wirePayload s.cfg p) = opened.storeBytes p :=
    State.fsmBytes_wirePayload (s := opened) hcfg rfl ((Nat.zero_add _).trans_le hp.le)
  have hlen : (opened.storeBytes p).len = s.cfg.maxLen := by
    rw [State.storeBytes_len, hp]
    exact Nat.zero_add _
  have hframe := opened.storeBytes_frame p
  have hlast : (opened.storeBytes p).fsmBytes (escSeq s.cfg x) =
      (opened.storeBytes p).abandon := by
    have hcfgFull : (opened.storeBytes p).cfg = s.cfg := by rw [hframe]; rfl
    rw [← hcfgFull] at hcfg hlen ⊢
    exact State.fsmBytes_escSeq_of_full hcfg (by rw [hframe]; rfl) hlen.ge x
  rw [State.fsmBytes_append, State.fsmBytes_wireHeader hps, hpayload, State.fsmBytes_append,
    hfill, hlast, hframe]
  rfl

/-- Settles O50: the run of the bytes is the FSM on them, and their number counted. -/
theorem overlongPayloadIsAbandoned : Obligations.OverlongPayloadIsAbandoned := by
  intro s d ty x p rest hcfg hps hp w
  have hw : w.length ≠ 0 := Nat.succ_ne_zero _
  refine (run_bytes hcfg w rest).trans ?_
  rw [iterate_incByteCount hw, State.fsmBytes_overlong hcfg hps d ty x hp]
  rfl

end Sys2Proof.Machine

/-! # The escape decoder (spec/41_escape_decoder.md)

The escape prefix moves the parse state and nothing else; the byte behind it then takes the rule of
the payload, whatever its class, except where the strict policy rejects it. -/

namespace Sys2Proof.Machine

/-! ## The prefix (R100) -/

/-- The configuration matters where `ETX = ESC`: the byte would then end the frame. -/
theorem State.fsmByte_esc {s : State} (hcfg : s.cfg.WellFormed) (hps : s.ps = .inPayload)
    {b : Byte} (hb : b = s.cfg.esc) : s.fsmByte b = s.setPs .escapeNext := by
  obtain ⟨-, -, -, -, -, hne, -⟩ := hcfg
  have hetx : b ≠ s.cfg.etx := hb ▸ hne.symm
  rw [State.fsmByte_inPayload hps, if_neg hetx, if_pos hb]

/-- The prefix in the payload is the only way into `EscapeNext`. -/
theorem State.fsmByte_ps_eq_escapeNext_iff (s : State) (b : Byte) :
    (s.fsmByte b).ps = .escapeNext ↔ s.ps = .inPayload ∧ b ≠ s.cfg.etx ∧ b = s.cfg.esc := by
  cases hps : s.ps with
  | idle => simp [State.fsmByte_idle hps, apply_ite State.ps, ite_eq_iff, hps]
  | sawAttention => simp [State.fsmByte_sawAttention hps, apply_ite State.ps, ite_eq_iff]
  | sawStart => simp [State.fsmByte_sawStart hps, apply_ite State.ps, ite_eq_iff]
  | expectDestination => simp [State.fsmByte_expectDestination hps]
  | expectType => simp [State.fsmByte_expectType hps]
  | inPayload =>
    simp [State.fsmByte_inPayload hps, apply_ite State.ps, ite_eq_iff, State.frameComplete_eq]
  | escapeNext => simp [State.fsmByte_escapeNext hps, apply_ite State.ps, ite_eq_iff]

/-- Settles O18: the rule of `InPayload` on `ESC`; no other parse state leads to `EscapeNext`. -/
theorem escapePrefixIsNotStored : Obligations.EscapePrefixIsNotStored := by
  refine ⟨fun s b hcfg hps hb => ?_, fun s b hcfg hps => ?_⟩
  · obtain ⟨-, -, -, hesc⟩ := eq_constant_iff_classOf hcfg b
    exact ⟨State.cell_selected hcfg hps (hesc.mp hb),
      exec_byte_of_fsmByte hcfg (State.fsmByte_esc hcfg hps hb)⟩
  · exact ⟨_, exec_byte_of_fsmByte hcfg rfl,
      fun h => hps ((s.fsmByte_ps_eq_escapeNext_iff b).mp h).left⟩

/-! ## The escaped byte (R101) -/

/-- Settles O19: the five cells that take the byte literally have one effect, in two arms, and the
event has it wherever the strict policy does not reject the byte. -/
theorem escapedByteIsLiteral : Obligations.EscapedByteIsLiteral := by
  intro s b hcfg hps
  obtain ⟨hattn, hstx, hetx, hesc⟩ := eq_constant_iff_classOf hcfg b
  have hcell {k : ByteClass} (hk : classOf s.cfg b = k) :
      s.cell .escapeNext k b (s.escapedByte b) =
        if s.len < s.cfg.maxLen then .next ((s.storeByte b).setPs .inPayload)
        else .next s.abandon := by
    rw [State.cell_selected hcfg hps hk, State.escapedByte, State.appendOrAbandon_eq,
      apply_ite Host.Outcome.next]
  refine ⟨hcell ∘ hattn.mp, hcell ∘ hstx.mp, hcell ∘ hetx.mp, hcell ∘ hesc.mp,
    fun hdata hliberal => (if_pos hliberal).trans (hcell hdata), fun haccept => ?_⟩
  have hpolicy : ¬ (s.cfg.strictEscape = true ∧ classOf s.cfg b = .dataC) :=
    fun ⟨hstrict, hdata⟩ => haccept.elim (· hdata) (by simp [hstrict])
  rw [exec_byte_of_fsmByte hcfg (State.fsmByte_escapeNext hps b), if_neg hpolicy,
    apply_ite State.incByteCount, apply_ite Host.Outcome.next]
  rfl

end Sys2Proof.Machine

/-! # The message buffer (spec/42_message_buffer.md)

The buffer's two operations: `append`, all or nothing (R110), and `reset()`, which leaves a cleared
frame and so changes nothing the second time (R111). -/

namespace Sys2Proof.Machine

/-! ## `append` (R110) -/

theorem State.append_of_full {s : State} (hfull : ¬ s.len < s.cfg.maxLen) (b : Byte) :
    s.append b = (s, .overflow) := if_neg hfull

/-- Settles O27: with room an append is a store, whose write is at index `len` alone. -/
theorem appendIsAllOrNothing : Obligations.AppendIsAllOrNothing := by
  refine fun s b => ⟨fun hroom => ?_, fun hfull => State.append_of_full hfull b⟩
  exact ⟨s.buf.write s.len b, State.append_of_room hroom b, s.buf.read?_write_self s.len b,
    fun _ hne => s.buf.read?_write_of_ne b hne⟩

/-! ## `reset()` (R111) -/

theorem State.frameCleared_resetFrame (s : State) : s.resetFrame.frameCleared :=
  ⟨rfl, rfl, rfl, rfl⟩

theorem State.payload_of_frameCleared {s : State} (h : s.frameCleared) : s.payload = [] := by
  obtain ⟨-, -, -, hlen⟩ := h
  rw [State.payload, hlen, List.range_zero, List.map_nil]

/-- Settles O28: reset() leaves a cleared frame, in which no cell is listed, and which a further
reset() does not change. -/
theorem resetOfTheFrameIsIdempotent : Obligations.ResetOfTheFrameIsIdempotent := by
  intro s
  have hcleared := s.frameCleared_resetFrame
  exact ⟨rfl, Memory.read?_nil, State.payload_of_frameCleared hcleared,
    State.resetFrame_of_frameCleared hcleared⟩

end Sys2Proof.Machine

/-! # The address filter (spec/43_address_filter.md)

The filter is the two comparisons of R120.  Its result decides the second of the two counters that
a completed frame advances (R125), and no other byte touches either. -/

namespace Sys2Proof.Machine

/-- Settles O34: the law of `accept`. -/
theorem filterAcceptsOwnAndBroadcastOnly : Obligations.FilterAcceptsOwnAndBroadcastOnly :=
  fun _ _ => accept_iff

/-! ## The frame counters (R125, R131, R132) -/

/-- A byte completes the frame or leaves both frame counters alone. -/
theorem State.fsmByte_frameComplete_or (b : Byte) (s : State) :
    (s.ps = .inPayload ∧ b = s.cfg.etx ∧ s.fsmByte b = s.frameComplete) ∨
    (¬ (s.ps = .inPayload ∧ b = s.cfg.etx) ∧ (s.fsmByte b).framesSeen = s.framesSeen ∧
      (s.fsmByte b).framesProcessed = s.framesProcessed) := by
  by_cases hend : s.ps = .inPayload ∧ b = s.cfg.etx
  · obtain ⟨hps, hb⟩ := hend
    exact .inl ⟨hps, hb, State.fsmByte_etx hps hb⟩
  · refine .inr ⟨hend, ?_⟩
    rcases s.fsmByte_cases b with ⟨-, -, e⟩ | ⟨-, -, e⟩ | ⟨-, -, e⟩ | ⟨-, -, e⟩ | ⟨-, e⟩ | ⟨-, e⟩ |
      ⟨hps, hb, -⟩ | ⟨-, -, -, e⟩ | ⟨-, -, e⟩ | ⟨-, e⟩
    pick_goal 7
    · exact absurd ⟨hps, hb⟩ hend
    all_goals rw [e]; exact ⟨rfl, rfl⟩

/-- A completed frame is counted as seen, whether or not it is also counted as processed. -/
theorem State.frameComplete_processed_le_seen {s : State}
    (h : s.framesProcessed ≤ s.framesSeen) (hwrap : s.framesSeen + 1 < 2 ^ s.cfg.cntW) :
    s.frameComplete.framesProcessed ≤ s.frameComplete.framesSeen := by
  have hprocessed : inc s.cfg.cntW s.framesProcessed = s.framesProcessed + 1 :=
    inc_of_lt (by omega)
  simp only [State.frameComplete_eq, inc_of_lt hwrap, hprocessed]
  split_ifs <;> omega

/-- Settles O46: a completed frame keeps the order of its two counters, RESET zeroes both, and
nothing else writes them. -/
theorem processedNeverExceedsSeen : Obligations.ProcessedNeverExceedsSeen := by
  intro s t h hwrap hstep
  rcases step_cases hstep with ⟨-, rfl⟩ | ⟨rest, ⟨b, -, -, rfl⟩ | ⟨-, -, rfl⟩ | ⟨-, -, rfl⟩ |
    ⟨-, -, rfl⟩⟩
  · exact h
  · rcases (s.setInput rest).incByteCount.fsmByte_frameComplete_or b with ⟨-, -, e⟩ |
      ⟨-, hseen, hprocessed⟩
    · rw [e]
      exact State.frameComplete_processed_le_seen (s := (s.setInput rest).incByteCount) h hwrap
    · rw [hseen, hprocessed]
      exact h
  · exact Nat.le_refl 0
  · exact h
  · exact h

end Sys2Proof.Machine

/-! # The counters and the pump (spec/44_counters_and_pump.md)

Each counter moves at its own occurrence alone (R130): a tick, a byte, a frame end, an accepted frame
end.  One invocation of the pump is a tick and then its reads (R136), so it is counted read by read. -/

namespace Sys2Proof.Machine

/-! ## One event (R133 to R135) -/

/-- Settles O21: the effect of TICK is its one increment. -/
theorem tickCountsAlone : Obligations.TickCountsAlone :=
  fun _ hcfg => State.configured_eq_next.mpr ⟨hcfg, rfl⟩

/-- Settles O22: READ_ANOMALY has no effect. -/
theorem readAnomalyIsANoOp : Obligations.ReadAnomalyIsANoOp :=
  fun _ hcfg => State.configured_eq_next.mpr ⟨hcfg, rfl⟩

/-- Settles O3: BYTE and the selected cell both have the effect of the FSM in the state with the byte
counted, where the same cell is selected. -/
theorem byteCountsThenRunsTheSelectedCell : Obligations.ByteCountsThenRunsTheSelectedCell := by
  intro s b hcfg
  have hbyte : exec (.byte b) s = .next (s.incByteCount.fsmByte b) :=
    execByte_eq_next.mpr ⟨hcfg, rfl⟩
  have hcell : exec (cellOf s.cfg s.ps b) s.incByteCount = .next (s.incByteCount.fsmByte b) :=
    exec_cellOf (s := s.incByteCount) hcfg b
  exact hbyte.trans hcell.symm

@[simp] theorem State.fsmByte_tickCount (b : Byte) (s : State) :
    (s.fsmByte b).tickCount = s.tickCount := by
  have hsame : s.fsmByte b = (s.fsmByte b).setTickCount s.tickCount :=
    State.fsmByte_setTickCount b s.tickCount s
  rw [hsame, State.setTickCount]

/-- The end byte of a frame, and no other, is counted in `frames_seen` (R131). -/
theorem State.fsmByte_framesSeen (b : Byte) (s : State) :
    (s.fsmByte b).framesSeen =
      if s.ps = .inPayload ∧ b = s.cfg.etx then inc s.cfg.cntW s.framesSeen
      else s.framesSeen := by
  rcases s.fsmByte_frameComplete_or b with ⟨hps, hb, e⟩ | ⟨hend, hseen, -⟩
  · rw [e, if_pos ⟨hps, hb⟩, State.frameComplete_eq]
  · rw [if_neg hend, hseen]

/-- The end byte of an accepted frame, and no other, is counted in `frames_processed` (R132). -/
theorem State.fsmByte_framesProcessed (b : Byte) (s : State) :
    (s.fsmByte b).framesProcessed =
      if s.ps = .inPayload ∧ b = s.cfg.etx ∧ (s.dest = s.cfg.bcast ∨ s.dest = s.cfg.nodeId)
      then inc s.cfg.cntW s.framesProcessed else s.framesProcessed := by
  rcases s.fsmByte_frameComplete_or b with ⟨hps, hb, e⟩ | ⟨hend, -, hprocessed⟩
  · rw [e, State.frameComplete_eq]
    simp only [accept_iff, hps, hb, true_and]
  · rw [if_neg fun ⟨hps, hb, _⟩ => hend ⟨hps, hb⟩, hprocessed]

/-- Settles O36: the count of R133 is `byte_count` alone, and the FSM moves the frame counters
alone. -/
theorem countersMoveOnlyAtTheirOwnOccurrence :
    Obligations.CountersMoveOnlyAtTheirOwnOccurrence := by
  intro s t b hexec
  obtain ⟨-, rfl⟩ := execByte_eq_next.mp hexec
  exact ⟨State.fsmByte_byteCount .., State.fsmByte_tickCount .., State.fsmByte_framesSeen ..,
    State.fsmByte_framesProcessed ..⟩

/-! ## One invocation of the pump (R136, R141) -/

theorem bytesRead_cons_got (b : Byte) (reads : List SourceRead) :
    bytesRead (.got b :: reads) = bytesRead reads + 1 := rfl

theorem bytesRead_cons_nothing (reads : List SourceRead) :
    bytesRead (.nothing :: reads) = bytesRead reads := rfl

/-- The effect of the events that the reads of an invocation make the pump issue. -/
def State.afterReads (reads : List SourceRead) (s : State) : State :=
  (reads.map SourceRead.event).foldl State.afterEvent s

theorem State.afterReads_got (b : Byte) (reads : List SourceRead) (s : State) :
    s.afterReads (.got b :: reads) = (s.incByteCount.fsmByte b).afterReads reads := rfl

theorem State.afterReads_nothing (reads : List SourceRead) (s : State) :
    s.afterReads (.nothing :: reads) = s.afterReads reads := rfl

/-- An invocation issues no RESET, so all its events have their effect. -/
theorem run_pumpEvents {s : State} (hcfg : s.cfg.WellFormed) (reads : List SourceRead) :
    Sys2Proof.core.run (reads.length + 1) (s.setInput (pumpEvents reads)) =
      .next ((s.incTickCount.afterReads reads).setInput []) := by
  have hes : ∀ e ∈ pumpEvents reads, e ≠ .reset := by
    refine List.forall_mem_cons.mpr ⟨by simp, List.forall_mem_map.mpr fun read _ => ?_⟩
    cases read <;> simp [SourceRead.event]
  have hrun := run_setInput_append hcfg hes []
  rwa [List.append_nil, pumpEvents, List.length_cons, List.length_map] at hrun

theorem State.afterReads_tickCount (reads : List SourceRead) (s : State) :
    (s.afterReads reads).tickCount = s.tickCount := by
  induction reads generalizing s with
  | nil => rfl
  | cons read reads ih =>
    cases read with
    | got b => rw [State.afterReads_got, ih, State.fsmByte_tickCount, State.incByteCount_tickCount]
    | nothing => rw [State.afterReads_nothing, ih]

/-- Each byte read is counted once (R133), whatever anomalies come between (R135). -/
theorem State.afterReads_byteCount (reads : List SourceRead) {s : State}
    (hfits : s.byteCount < 2 ^ s.cfg.cntW) :
    (s.afterReads reads).byteCount = (s.byteCount + bytesRead reads) % 2 ^ s.cfg.cntW := by
  induction reads generalizing s with
  | nil => exact (Nat.mod_eq_of_lt hfits).symm
  | cons read reads ih =>
    cases read with
    | got b =>
      have hcount : (s.incByteCount.fsmByte b).byteCount = inc s.cfg.cntW s.byteCount :=
        State.fsmByte_byteCount ..
      have hcfg : (s.incByteCount.fsmByte b).cfg = s.cfg := State.fsmByte_cfg ..
      rw [State.afterReads_got, ih (by rw [hcount, hcfg]; exact inc_lt ..), hcount, hcfg, inc,
        Nat.mod_add_mod, bytesRead_cons_got, Nat.add_assoc, Nat.add_comm 1]
    | nothing => rw [State.afterReads_nothing, ih hfits, bytesRead_cons_nothing]

theorem State.afterReads_of_bytesRead_eq_zero {reads : List SourceRead}
    (hnone : bytesRead reads = 0) (s : State) : s.afterReads reads = s := by
  induction reads with
  | nil => rfl
  | cons read reads ih =>
    cases read with
    | got b => cases hnone
    | nothing => exact ih hnone

/-- Settles O53: the tick of the invocation and then its reads, counted one by one. -/
theorem pumpInvocationCounts : Obligations.PumpInvocationCounts := by
  intro s reads hcfg hfits
  refine ⟨_, run_pumpEvents hcfg reads, rfl, State.afterReads_tickCount reads s.incTickCount,
    State.afterReads_byteCount reads (s := s.incTickCount) hfits, fun hnone => ?_⟩
  rw [State.afterReads_of_bytesRead_eq_zero hnone]
  rfl

end Sys2Proof.Machine

/-! # Errors and simultaneous events (spec/60_exceptions.md)

A frame for another node is no error of the decoder: it is seen and dropped (R155).  Two events of
one clock cycle are still taken one after the other (R156); D16 fixes an order, and no order shows,
because only TICK writes `tick_count` and no other event reads it. -/

namespace Sys2Proof.Machine

/-- Settles O35: frame-complete with the two accepted arms closed. -/
theorem misaddressedFrameIsSeenOnly : Obligations.MisaddressedFrameIsSeenOnly := by
  intro s hcfg hps hbcast hnode
  obtain ⟨-, hbyte⟩ := endByteCompletesTheFrame s s.cfg.etx hcfg hps rfl
  have hforeign : ¬ (s.dest = s.cfg.bcast ∨ s.dest = s.cfg.nodeId) := not_or.mpr ⟨hbcast, hnode⟩
  rwa [if_neg hforeign, if_neg hforeign] at hbyte

/-! ## The events of one clock cycle (D16) -/

theorem portEvents_of_not_rst {p : PortIn} (hrst : p.rst = false) :
    portEvents p = (if p.tick then [.tick] else []) ++
      (if p.anomaly then [.readAnomaly] else []) ++
      (if p.inValid then [.byte p.inData] else []) := by
  rw [portEvents, hrst, if_neg Bool.false_ne_true]

theorem eq_of_mem_portEvents {p : PortIn} (hrst : p.rst = false) {e : Event}
    (he : e ∈ portEvents p) : e = .tick ∨ e = .readAnomaly ∨ e = .byte p.inData := by
  simp only [portEvents_of_not_rst hrst, List.mem_append, List.mem_ite_nil_right,
    List.mem_singleton] at he
  obtain (⟨-, he⟩ | ⟨-, he⟩) | ⟨-, he⟩ := he
  · exact .inl he
  · exact .inr (.inl he)
  · exact .inr (.inr he)

theorem ne_reset_of_mem_portEvents {p : PortIn} (hrst : p.rst = false) :
    ∀ e ∈ portEvents p, e ≠ .reset := by
  intro e he
  rcases eq_of_mem_portEvents hrst he with rfl | rfl | rfl <;> simp

/-- The FSM does not read `tick_count`, so the order of a tick and the FSM is unobservable. -/
theorem State.fsmByte_incTickCount (b : Byte) (s : State) :
    s.incTickCount.fsmByte b = (s.fsmByte b).incTickCount := by
  have hset : s.incTickCount.fsmByte b =
      (s.fsmByte b).setTickCount (inc s.cfg.cntW s.tickCount) := State.fsmByte_setTickCount ..
  rw [hset, State.setTickCount, State.incTickCount, State.fsmByte_cfg, State.fsmByte_tickCount]

/-- Two events of one cycle commute: a byte with a tick because neither reads what the other
writes. -/
theorem State.afterEvent_right_comm {e e' : Event} {b : Byte}
    (he : e = .tick ∨ e = .readAnomaly ∨ e = .byte b)
    (he' : e' = .tick ∨ e' = .readAnomaly ∨ e' = .byte b) (s : State) :
    (s.afterEvent e).afterEvent e' = (s.afterEvent e').afterEvent e := by
  have htick : (s.afterEvent .tick).afterEvent (.byte b) =
      (s.afterEvent (.byte b)).afterEvent .tick := s.incByteCount.fsmByte_incTickCount b
  rcases he with rfl | rfl | rfl <;> rcases he' with rfl | rfl | rfl
  case inl.inr.inr => exact htick
  case inr.inr.inl => exact htick.symm
  all_goals rfl

theorem foldl_afterEvent_portEvents_reverse {p : PortIn} (hrst : p.rst = false) (s : State) :
    (portEvents p).reverse.foldl State.afterEvent s = (portEvents p).foldl State.afterEvent s := by
  refine (List.reverse_perm _).foldl_eq' (fun e he e' he' s => ?_) s
  rw [List.mem_reverse] at he he'
  exact State.afterEvent_right_comm (eq_of_mem_portEvents hrst he)
    (eq_of_mem_portEvents hrst he') s

/-! ## The dispatch ports (D12) -/

/-- `disp_valid` is high exactly where the FSM dispatches (R122). -/
theorem State.dispatchPorts_isSome {p : PortIn} (hrst : p.rst = false) (s : State) :
    (s.dispatchPorts p).isSome ↔ p.inValid = true ∧ p.inData = s.cfg.etx ∧ s.ps = .inPayload ∧
      (s.dest = s.cfg.bcast ∨ s.dest = s.cfg.nodeId) := by
  simp [State.dispatchPorts, hrst, accept_iff, and_left_comm]

theorem State.dispatchPorts_eq_some {s : State} {p : PortIn} {d : DispatchPorts}
    (hports : s.dispatchPorts p = some d) :
    d.dest = s.dest ∧ d.typ = s.typ ∧ d.len = s.len ∧ d.payload.length = s.cfg.maxLen ∧
      ∀ i, i < s.len → i < s.cfg.maxLen → d.payload[i]? = some (some (s.bufRead i)) := by
  obtain ⟨-, hd⟩ := Option.ite_none_right_eq_some.mp hports
  cases hd
  refine ⟨rfl, rfl, rfl, by simp, fun i hlen hmax => ?_⟩
  simp [hlen, hmax]

/-- Ticks and anomalies leave the outputs, so a cycle adds what its byte adds. -/
theorem State.output_foldl_portEvents {p : PortIn} (hrst : p.rst = false) (s : State) :
    ((portEvents p).foldl State.afterEvent s).output =
      if (s.dispatchPorts p).isSome then s.output ++ [s.completedFrame] else s.output := by
  have hbytes : ((portEvents p).filter fun e => e ≠ .tick ∧ e ≠ .readAnomaly) =
      if p.inValid then [.byte p.inData] else [] := by
    rw [portEvents_of_not_rst hrst]
    split_ifs <;> rfl
  have hfold := foldl_afterEvent_filter (ne_reset_of_mem_portEvents hrst) s.tickCount s
  rw [hbytes] at hfold
  refine (congrArg State.output hfold).symm.trans ?_
  simp only [State.dispatchPorts_isSome hrst]
  cases p.inValid with
  | false => rfl
  | true =>
    simp only [true_and]
    exact s.incByteCount.fsmByte_output p.inData

/-- Settles O58: either order is the effects of the same events, which commute, and the dispatch
ports are valid where the byte of the cycle dispatches. -/
theorem portOrderIsUnobservable : Obligations.PortOrderIsUnobservable := by
  intro s p hcfg hrst
  have hes := ne_reset_of_mem_portEvents hrst
  have hrun := run_setInput_append hcfg hes []
  have hreversed := run_setInput_append hcfg (fun e he => hes e (List.mem_reverse.mp he)) []
  rw [List.append_nil] at hrun hreversed
  rw [List.length_reverse, foldl_afterEvent_portEvents_reverse hrst] at hreversed
  have houtput := s.output_foldl_portEvents hrst
  refine ⟨_, hrun, hreversed, ?_⟩
  cases hports : s.dispatchPorts p with
  | none =>
    rw [hports] at houtput
    exact .inl ⟨rfl, houtput⟩
  | some d =>
    obtain ⟨hdest, htyp, hlen, hlength, hpayload⟩ := State.dispatchPorts_eq_some hports
    rw [hports] at houtput
    refine .inr ⟨d, rfl, hlen, hlength, ?_, hpayload⟩
    rw [hdest, htyp]
    exact houtput

end Sys2Proof.Machine

/-! # Reset, the strict policy, and the encodings that the spec decides

RESET is construction (D9), so what stands in the registers after it is what construction writes.
The strict policy rejects (D8), so its cell has the effect of every rejected byte.  A counter wraps
at its width (D10), and a parse state has a number of three bits (D11). -/

namespace Sys2Proof.Machine

/-! ## Construction and RESET (R29, R170) -/

/-- Settles O25: the values construction writes; in `Idle` neither header byte is valid (R30). -/
theorem resetStateValues : Obligations.ResetStateValues :=
  ⟨fun _ => ⟨rfl, rfl, Memory.read?_nil, rfl, rfl, rfl, rfl, rfl, rfl, rfl, rfl⟩, bootConfig, rfl⟩

/-- Settles O23: RESET is construction but for the fields of the host, and construction writes
these values. -/
theorem resetClearsFrameAndCounters : Obligations.ResetClearsFrameAndCounters := by
  intro s hcfgIn
  obtain ⟨hps, hlen, hbuf, hdest, htyp, -, -, hcounters⟩ := resetStateValues.left s.cfgIn
  obtain ⟨htick, hbyte, hseen, hprocessed⟩ := hcounters
  exact ⟨_, resetIsConstruction s hcfgIn, hps, hdest, htyp, hlen, hbuf, htick, hbyte, hseen,
    hprocessed, rfl⟩

/-! ## The strict escape policy (R102) -/

/-- Settles O20: the byte is rejected, and a rejected byte abandons the frame. -/
theorem strictPolicyAbandons : Obligations.StrictPolicyAbandons := by
  intro s b hcfg hps hstrict hdata
  have hrejects : s.rejects b := .inr (.inr (.inl ⟨hps, hstrict, hdata⟩))
  exact ⟨(if_pos hstrict).trans (State.cell_selected hcfg hps hdata),
    exec_byte_of_fsmByte hcfg (State.fsmByte_of_rejects hrejects)⟩

/-! ## The width of a counter (R139) -/

theorem inc_of_add_one_eq {w n : Nat} (h : n + 1 = 2 ^ w) : inc w n = 0 := by
  rw [inc, h, Nat.mod_self]

/-- Settles O39: the last value of the width wraps, and below it there is room for one more. -/
theorem counterWrapsAtItsWidth : Obligations.CounterWrapsAtItsWidth := by
  intro w n hn
  refine ⟨?_, inc_lt w n⟩
  split_ifs with hlast
  · exact inc_of_add_one_eq (by omega)
  · exact inc_of_lt (by omega)

/-! ## The state numbers (R32) -/

theorem stateOfNumber_stateNumber (p : ParseState) : stateOfNumber (stateNumber p) = p := by
  cases p <;> rfl

/-- Settles O56: the seven numbers by evaluation, and the reading back state by state. -/
theorem stateNumbersFollowTheListing : Obligations.StateNumbersFollowTheListing :=
  ⟨rfl, rfl, rfl, rfl, rfl, rfl, rfl, stateOfNumber_stateNumber, rfl⟩

end Sys2Proof.Machine
